-- ==== Sys2Proof/Word.lean ====
section
/-!
DEFINITION. The words of the part (bytes, 16-bit words, stamps, mark times), the names of its
ports, banks, strings and sense inputs, and the fixed-size records indexed by those names.
-/

namespace Sys2Proof

/-- One byte of a frame or of a body (R176). -/
abbrev Byte := BitVec 8

/-- A 16-bit word: shared counters (R4, R24, R41, R65, R83), revisions (R100), the flag word (R183). -/
abbrev Half := BitVec 16

/-- A stamp: the 24-bit count of samples (R7). -/
abbrev Stamp := BitVec 24

/-- A mark time in sixteenths of a sample, taken modulo 268,435,456 = 2^28 (R56). -/
abbrev MarkTime := BitVec 28

/-- The two ports (section 0.1). -/
inductive Port where
  | a
  | b
deriving DecidableEq, Repr

/-- The two banks of string profile records (R100). -/
inductive Bank where
  | a
  | b
deriving DecidableEq, Repr

/-- The strings, 1 the thinnest and 6 the thickest (section 0.7). -/
inductive StringNo where
  | s1
  | s2
  | s3
  | s4
  | s5
  | s6
deriving DecidableEq, Repr

/-- The sense inputs SIN0..SIN7 (section 0.7). -/
inductive Sin where
  | sin0
  | sin1
  | sin2
  | sin3
  | sin4
  | sin5
  | sin6
  | sin7
deriving DecidableEq, Repr

/-- The two sense inputs that can serve an auxiliary line (R2). -/
inductive AuxNo where
  | sin6
  | sin7
deriving DecidableEq, Repr

/-- One value for each port or for each bank. -/
structure Two (α : Type) where
  a : α
  b : α
deriving DecidableEq, Repr

/-- One value for each string 1..6. -/
structure Six (α : Type) where
  s1 : α
  s2 : α
  s3 : α
  s4 : α
  s5 : α
  s6 : α
deriving DecidableEq, Repr

/-- One value for each sense input SIN0..SIN7. -/
structure Eight (α : Type) where
  i0 : α
  i1 : α
  i2 : α
  i3 : α
  i4 : α
  i5 : α
  i6 : α
  i7 : α
deriving DecidableEq, Repr

/-- The port that is not this one. -/
def Port.other : Port → Port
  | .a => .b
  | .b => .a

/-- Port codes A 0, B 1 (R188). -/
def Port.code : Port → Nat
  | .a => 0
  | .b => 1

/-- Bank codes A 0, B 1 (R188). -/
def Bank.code : Bank → Nat
  | .a => 0
  | .b => 1

/-- The bank a code names, if it names one (R188). -/
def Bank.ofCode? : Nat → Option Bank
  | 0 => some .a
  | 1 => some .b
  | _ => none

/-- Every string, in the order of their numbers. -/
def StringNo.all : List StringNo := [.s1, .s2, .s3, .s4, .s5, .s6]

/-- The number of a string, 1..6. -/
def StringNo.number : StringNo → Nat
  | .s1 => 1
  | .s2 => 2
  | .s3 => 3
  | .s4 => 4
  | .s5 => 5
  | .s6 => 6

/-- The string a number names, if it lies in 1..6. -/
def StringNo.ofNumber? : Nat → Option StringNo
  | 1 => some .s1
  | 2 => some .s2
  | 3 => some .s3
  | 4 => some .s4
  | 5 => some .s5
  | 6 => some .s6
  | _ => none

/-- The thinner neighbour of string s is string s-1, which exists for s of 2 or more (section 0.7). -/
def StringNo.thinner? : StringNo → Option StringNo
  | .s1 => none
  | .s2 => some .s1
  | .s3 => some .s2
  | .s4 => some .s3
  | .s5 => some .s4
  | .s6 => some .s5

/-- The thicker neighbour of string s is string s+1, which exists for s of 5 or less (section 0.7). -/
def StringNo.thicker? : StringNo → Option StringNo
  | .s1 => some .s2
  | .s2 => some .s3
  | .s3 => some .s4
  | .s4 => some .s5
  | .s5 => some .s6
  | .s6 => none

/-- Every sense input, in the order of their numbers. -/
def Sin.all : List Sin := [.sin0, .sin1, .sin2, .sin3, .sin4, .sin5, .sin6, .sin7]

/-- The number of a sense input, 0..7. -/
def Sin.number : Sin → Nat
  | .sin0 => 0
  | .sin1 => 1
  | .sin2 => 2
  | .sin3 => 3
  | .sin4 => 4
  | .sin5 => 5
  | .sin6 => 6
  | .sin7 => 7

/-- The sense input a number names, if it lies in 0..7. -/
def Sin.ofNumber? : Nat → Option Sin
  | 0 => some .sin0
  | 1 => some .sin1
  | 2 => some .sin2
  | 3 => some .sin3
  | 4 => some .sin4
  | 5 => some .sin5
  | 6 => some .sin6
  | 7 => some .sin7
  | _ => none

/-- An auxiliary input as a sense input. -/
def AuxNo.sin : AuxNo → Sin
  | .sin6 => .sin6
  | .sin7 => .sin7

/-- The value at a port. -/
def Two.get {α : Type} (v : Two α) : Port → α
  | .a => v.a
  | .b => v.b

/-- The record with one port's value replaced. -/
def Two.set {α : Type} (v : Two α) (p : Port) (x : α) : Two α :=
  match p with
  | .a => { v with a := x }
  | .b => { v with b := x }

/-- The value at a bank. -/
def Two.bank {α : Type} (v : Two α) : Bank → α
  | .a => v.a
  | .b => v.b

/-- The record with one bank's value replaced. -/
def Two.setBank {α : Type} (v : Two α) (k : Bank) (x : α) : Two α :=
  match k with
  | .a => { v with a := x }
  | .b => { v with b := x }

/-- The value at a string. -/
def Six.get {α : Type} (v : Six α) : StringNo → α
  | .s1 => v.s1
  | .s2 => v.s2
  | .s3 => v.s3
  | .s4 => v.s4
  | .s5 => v.s5
  | .s6 => v.s6

/-- The record with one string's value replaced. -/
def Six.set {α : Type} (v : Six α) (n : StringNo) (x : α) : Six α :=
  match n with
  | .s1 => { v with s1 := x }
  | .s2 => { v with s2 := x }
  | .s3 => { v with s3 := x }
  | .s4 => { v with s4 := x }
  | .s5 => { v with s5 := x }
  | .s6 => { v with s6 := x }

/-- The record whose value at each string is given by a rule. -/
def Six.of {α : Type} (f : StringNo → α) : Six α :=
  ⟨f .s1, f .s2, f .s3, f .s4, f .s5, f .s6⟩

/-- The six values in string order. -/
def Six.toList {α : Type} (v : Six α) : List α := [v.s1, v.s2, v.s3, v.s4, v.s5, v.s6]

/-- The value at a sense input. -/
def Eight.get {α : Type} (v : Eight α) : Sin → α
  | .sin0 => v.i0
  | .sin1 => v.i1
  | .sin2 => v.i2
  | .sin3 => v.i3
  | .sin4 => v.i4
  | .sin5 => v.i5
  | .sin6 => v.i6
  | .sin7 => v.i7

/-- The record with one sense input's value replaced. -/
def Eight.set {α : Type} (v : Eight α) (i : Sin) (x : α) : Eight α :=
  match i with
  | .sin0 => { v with i0 := x }
  | .sin1 => { v with i1 := x }
  | .sin2 => { v with i2 := x }
  | .sin3 => { v with i3 := x }
  | .sin4 => { v with i4 := x }
  | .sin5 => { v with i5 := x }
  | .sin6 => { v with i6 := x }
  | .sin7 => { v with i7 := x }

/-- The record whose value at each sense input is given by a rule. -/
def Eight.of {α : Type} (f : Sin → α) : Eight α :=
  ⟨f .sin0, f .sin1, f .sin2, f .sin3, f .sin4, f .sin5, f .sin6, f .sin7⟩

/-- The eight values in input order. -/
def Eight.toList {α : Type} (v : Eight α) : List α :=
  [v.i0, v.i1, v.i2, v.i3, v.i4, v.i5, v.i6, v.i7]

/-- To clamp is to replace a value below the range with its lower limit and one above with its upper (R1). -/
def clampNat (lo hi n : Nat) : Nat := max lo (min hi n)

/-- The same for signed values (R1). -/
def clampInt (lo hi n : Int) : Int := max lo (min hi n)

/-- A count that stops at 65535 (section 0.7, counters of one port; R151, R163, R164). -/
def countUp (n : Nat) : Nat := min 65535 (n + 1)

end Sys2Proof
end

