-- ==== Sys2Proof/Config.lean ====
section
/-!
DEFINITION. The constants the spec fixes for every ZT616. The spec leaves no value open (it
states every result, the pitch of R67 included), so no free value stands here.
-/

namespace Sys2Proof.Config

/-- Part number 616, family code 0x5A, part revision 1 (R181, IDENTIFY). -/
def partNumber : Nat := 616
/-- Family code (R181, IDENTIFY). -/
def familyCode : Nat := 0x5A
/-- Part revision (R181, IDENTIFY). -/
def partRevision : Nat := 1

/-- A raw code of this size or more is at the positive rail, of its negative or less at the negative (R5). -/
def railCode : Int := 32000
/-- The rail-run length at which a stuck episode begins (R5). -/
def episodeLength : Nat := 480
/-- The rail-run length at which the stuck-long report is made, and where the length stays (R5, R6). -/
def longLength : Nat := 4096
/-- The aux cadence and the digital hold count, in samples (R12, R13). -/
def auxLength : Nat := 480
/-- The settle window, in conversion sets (R21). -/
def windowLength : Nat := 8192
/-- The floor above which the window end drops an input (R22). -/
def floorLimit : Nat := 8192
/-- The samples without a kept mark after which the history is cleared (R60). -/
def stallLength : Nat := 1250
/-- The least interval, in sixteenths of a sample (R58). -/
def intervalMin : Nat := 128
/-- The greatest interval that enters the history (R58). -/
def intervalMax : Nat := 20000
/-- The level timer's period in samples (R88). -/
def levelPeriod : Nat := 240
/-- The conversion sets of a capture (R123). -/
def captureLength : Nat := 4096
/-- The least own peak a learn accepts (R124). -/
def weakLimit : Nat := 2048

/-- The presence debounce in milliseconds (R18). -/
def presenceMs : Nat := 20
/-- The power-up delay in milliseconds (R19, R20). -/
def powerUpMs : Nat := 50
/-- The arm timer in milliseconds (R121). -/
def armMs : Nat := 10000

/-- The number of records in a resync sequence (R165). -/
def resyncLength : Nat := 7
/-- The most entries a filter table holds (R149). -/
def filterMax : Nat := 8

end Sys2Proof.Config
end

