-- ==== Sys2Proof/Syntax.lean ====
section
/-!
DEFINITION. The commands and events of the part, one constructor for each of the 65 rows of
spec/opcode_table.json, with their operands. Arguments of command frames are kept as the bytes
that are sent (R176, R181, R191, R192), so that a code naming nothing can be said and refused.
-/

namespace Sys2Proof

/-- Where a sample comes from: the internal oscillator or a rising edge of WCLK (R9, R10). -/
inductive SampleSource where
  | internalTick
  | wclkEdge
deriving DecidableEq, Repr

/-- What the sense pins carry at one sample: a raw code for each converter (R3) and the level of
SIN6 and SIN7 where they are digital (R13). A pin's unused value plays no part. -/
structure SetInputs where
  raw : Eight Half
  high6 : Bool
  high7 : Bool
deriving DecidableEq, Repr

/-- The orders inside one conversion set that the spec leaves open. `monitorFirst` has bit n-1 set when
tracker n takes the link monitor's changes of this set before it handles its sample (R94); `windowFirst`
says that those changes are a window end and behind it the stuck-long reports, and not the reports and
behind them the window end (R27). `captureFirst` says that the Learn Engine takes a capture end of this
set before the trackers' onset reports of this set (R126). -/
structure SetOrder where
  monitorFirst : BitVec 6
  windowFirst : Bool
  captureFirst : Bool
deriving DecidableEq, Repr

/-- The maker of a publication (R14, R29, R90). -/
inductive Maker where
  | siu
  | link
  | tracker (n : StringNo)
deriving DecidableEq, Repr

/-- The 23-byte image of a string profile record, field for field as sent (R191). -/
structure ProfileImage where
  windowLow : Half
  windowHigh : Half
  gateOn : Byte
  gateOff : Byte
  repick : Byte
  sens : Byte
  decay : Byte
  releaseHold : Half
  bleedThinner : Half
  bleedThicker : Half
  marks : Byte
  tol : Byte
  onsetTimeout : Half
  jump : Half
  revision : Half
deriving DecidableEq, Repr

/-- The 19-byte image of the global record, field for field as sent (R192). -/
structure GlobalImage where
  na : Byte
  gains : Eight Byte
  map : Six Byte
  offset : Byte
  grade : Byte
  revision : Half
deriving DecidableEq, Repr

/-- The 11-byte image of the stream settings, field for field as sent (R181). -/
structure SettingsImage where
  bendMode : Byte
  bendRange : Byte
  stepHyst : Byte
  bendStep : Half
  levelStep : Byte
  legatoPolicy : Byte
  idleTimeout : Half
  packetLimit : Byte
  ringLength : Byte
deriving DecidableEq, Repr

/-- The three bytes of one filter entry as sent: kind set, string mask, action (R181). -/
structure FilterImage where
  kinds : Byte
  strings : Byte
  action : Byte
deriving DecidableEq, Repr

/-- The rows of spec/opcode_table.json. A row that is a command frame names the port `p` it
completes on. -/
inductive Instr where
  | powerOn
  | partReset (p : Port)
  | conversionSet (src : SampleSource) (pins : SetInputs) (order : SetOrder)
  | stuckEpisodeBegin (i : Sin)
  | stuckLong (i : Sin)
  | auxEvaluation (x : AuxNo)
  | digitalAuxPublish (x : AuxNo)
  | settleWindowEnd
  | stall (n : StringNo)
  | onsetTimeout (n : StringNo)
  | releaseTimerEnd (n : StringNo)
  | levelTimer (n : StringNo)
  | wordClockLoss
  | presChange (level : Bool)
  | presenceBecomesTrue
  | presenceBecomesFalse
  | powerUpDelayEnd
  | overCurrent
  | armTimerExpiry
  | captureEnd
  | learnCommit
  | publicationTaken (p : Port) (m : Maker)
  | idleTimerExpiry (p : Port)
  | csFall (p : Port)
  | csRise (p : Port)
  | responseReady (p : Port)
  | unknownCommand (p : Port) (code : Byte) (args : List Byte)
  | identify (p : Port)
  | setClock (p : Port) (choice : Byte)
  | readStatus (p : Port)
  | clearFlags (p : Port) (word : Half)
  | setAttnMask (p : Port) (word : Half)
  | readContext (p : Port) (string : Byte)
  | readCounters (p : Port) (selector : Byte) (number : Byte)
  | readFloors (p : Port)
  | readProfile (p : Port) (bank : Byte) (string : Byte)
  | editProfile (p : Port) (bank : Byte) (string : Byte) (base : Half) (image : ProfileImage)
  | readGlobal (p : Port)
  | editGlobal (p : Port) (base : Half) (image : GlobalImage)
  | selectBank (p : Port) (mask : Byte) (bank : Byte)
  | retrain (p : Port)
  | disable (p : Port)
  | enable (p : Port)
  | expectRemoval (p : Port)
  | learnStart (p : Port) (string : Byte) (bank : Byte) (base : Half)
  | learnAbort (p : Port)
  | learnStatus (p : Port)
  | setStream (p : Port) (image : SettingsImage)
  | readStream (p : Port)
  | setFilter (p : Port) (entries : List FilterImage)
  | readFilter (p : Port)
  | streamStart (p : Port)
  | streamStop (p : Port)
  | streamHold (p : Port)
  | streamResume (p : Port)
  | streamResync (p : Port)
  | streamReset (p : Port)
  | fetch (p : Port)
  | release (p : Port) (seq : Byte)
  | readLatch (p : Port)
  | postCue (p : Port) (destinations : Byte) (code : Half)
  | readPortCounters (p : Port)
  | clearPortCounters (p : Port)
  | malformedFrame (p : Port) (code : Byte) (args : List Byte)
  | busyFrame (p : Port) (code : Byte) (args : List Byte)
deriving DecidableEq, Repr

end Sys2Proof
end

