-- ==== Sys2Proof/Machine/State.lean ====
section
/-!
DEFINITION. The state of the part as plain data: every register, counter, timer, mode, buffer and
pin the spec gives its blocks (section 0.2), the queue of commands waiting to be taken, the reasons
a step can stop, and the state after power-on.
-/

namespace Sys2Proof.Machine

/-- The clock choice (R9). -/
inductive ClockChoice where
  | internal
  | word48
  | word44
deriving DecidableEq, Repr

/-- The active rate, 48,000 or 44,100 Hz (R9). -/
inductive Rate where
  | hz48000
  | hz44100
deriving DecidableEq, Repr

/-- The rail run of an input: a sign and a length 0..4096 (R5). -/
structure RailRun where
  positive : Bool
  length : Nat
deriving DecidableEq, Repr

/-- What the SIU keeps for one sense input (R4, R5, R6). The two counters are kept through every
change of role (R2). `longReported` says that the present episode has made its stuck-long report
(R6, "once per episode"); `raw` is the raw code of the last sample, which an aux evaluation reads (R12). -/
structure SenseInput where
  clipRun : Bool
  clip : Half
  rail : RailRun
  episode : Bool
  longReported : Bool
  stuck : Half
  raw : Half
deriving DecidableEq, Repr

/-- What the SIU keeps for SIN6 and SIN7 in each of the two aux roles (R12, R13). -/
structure AuxUnit where
  cadence : Nat
  lastValue : Option Nat
  published : Option Bool
  candidate : Bool
  hold : Nat
deriving DecidableEq, Repr

/-- The Sense Input Unit (Chapter 1). `watch` says that the word-clock watch runs, and `fed` that it was
started or restarted in the present millisecond of the internal timebase (R10, log entry 3). -/
structure Siu where
  choice : ClockChoice
  lock : Bool
  fallback : Bool
  rate : Rate
  watch : Bool
  fed : Bool
  stamp : Stamp
  inputs : Eight SenseInput
  aux6 : AuxUnit
  aux7 : AuxUnit
deriving DecidableEq, Repr

/-- The six link states (section 2.1). -/
inductive LinkState where
  | disabled
  | absent
  | powering
  | settling
  | active
  | overload
deriving DecidableEq, Repr

/-- The Pickup Link Monitor (Chapter 2). `presPin` is the level read on PRES; `holdMs` the time in
ms the candidate has held; `delayMs` what is left of the power-up delay while it runs; `windowEnded` says
that a settle window ended at the present conversion set (R27). -/
structure Link where
  state : LinkState
  supply : Bool
  presPin : Bool
  candidate : Bool
  holdMs : Nat
  presence : Bool
  delayMs : Option Nat
  expect : Bool
  floors : Eight Nat
  dropped : Eight Bool
  windowMax : Eight Nat
  stuckSeen : Eight Bool
  progress : Nat
  windowEnded : Bool
  width : Nat
  linkCounter : Half
deriving DecidableEq, Repr

/-- The DC accumulator of one input: absent while the input is digital, holding M, or to be loaded
from the input's next sample (R36, R37). -/
inductive Accumulator where
  | absent
  | held (m : Int)
  | toLoad
deriving DecidableEq, Repr

/-- The Conditioner (Chapter 3): an accumulator per input and a SAT counter per string. -/
structure Conditioner where
  dc : Eight Accumulator
  sat : Six Half
deriving DecidableEq, Repr

/-- The five tracker states (section 5.3). -/
inductive TrackState where
  | muted
  | silent
  | onset
  | sounding
  | releasing
deriving DecidableEq, Repr

/-- The anchor note, pitch and velocity, which are made present and absent together (R74). -/
structure HeldNote where
  anchor : Nat
  pitch : Int
  velocity : Nat
deriving DecidableEq, Repr

/-- The working copy of a string's profile (R75, R76). -/
structure WorkingCopy where
  windowLow : Nat
  windowHigh : Nat
  gateOn : Nat
  gateOff : Nat
  repick : Nat
  sens : Nat
  decay : Nat
  releaseHold : Nat
  tol : Nat
  onsetTimeout : Nat
  jump : Nat
  floorUsed : Nat
  gOn : Nat
  gOff : Nat
deriving DecidableEq, Repr

/-- One String Context with its tracker's counters (R54, R57, R59, R60, R65, R74, R83). The level is
computed from `e` (R53). `history` is oldest first. The three `clear…` marks are clearings that
act from the next sample (R52, R54, R57, R61, R77). -/
structure Tracker where
  state : TrackState
  note : Option HeldNote
  e : Nat
  articulation : Byte
  onsetStamp : Stamp
  onsetPeak : Nat
  bank : Bank
  copy : WorkingCopy
  onsetTimer : Option Nat
  releaseTimer : Option Nat
  levelTimer : Option Nat
  armed : Bool
  lastMark : Option MarkTime
  history : List Nat
  stall : Nat
  curPeak : Nat
  prevPeak : Nat
  prevY : Int
  clearE : Bool
  clearHistory : Bool
  clearDetector : Bool
  noise : Half
  reject : Half
  ghost : Half
deriving DecidableEq, Repr

/-- The override part of a string profile record: each field held or not (R101). -/
structure Override where
  tol : Option Nat
  onsetTimeout : Option Nat
  jump : Option Nat
deriving DecidableEq, Repr

/-- A string profile record (R100). -/
structure Profile where
  windowLow : Nat
  windowHigh : Nat
  gateOn : Nat
  gateOff : Nat
  repick : Nat
  sens : Nat
  decay : Nat
  releaseHold : Nat
  bleedThinner : Nat
  bleedThicker : Nat
  override : Option Override
  revision : Half
deriving DecidableEq, Repr

/-- The grade (R101). -/
inductive Grade where
  | fast
  | standard
  | robust
deriving DecidableEq, Repr

/-- The global record (section 6.1). -/
structure Global where
  na : Nat
  gains : Eight Nat
  map : Six (Option Sin)
  offset : Int
  grade : Grade
  revision : Half
deriving DecidableEq, Repr

/-- The Profile Store (R100). -/
structure Store where
  banks : Two (Six Profile)
  global : Global
  requested : Six Bank
deriving DecidableEq, Repr

/-- The target of a learn: string, bank, base revision and starting port (R120). -/
structure Target where
  string : StringNo
  bank : Bank
  base : Half
  port : Port
deriving DecidableEq, Repr

/-- The peaks p_s, p_thin and p_thick of a capture (R123). -/
structure Peaks where
  own : Nat
  thinner : Nat
  thicker : Nat
deriving DecidableEq, Repr

/-- The three values a learn measures (R125). -/
structure Measured where
  bleedThinner : Nat
  bleedThicker : Nat
  sens : Nat
deriving DecidableEq, Repr

/-- The learn state with what each state holds (R120). `handed` is the commit-handed mark: it holds
the values handed to the Profile Store from the capture end until the store answers (R124). -/
inductive LearnState where
  | idle
  | armed (t : Target) (remainMs : Nat)
  | capture (t : Target) (count : Nat) (peaks : Peaks) (handed : Option Measured)
deriving DecidableEq, Repr

/-- The code of a last result (R120). -/
inductive LearnCode where
  | none
  | done
  | failed
  | aborted
deriving DecidableEq, Repr

/-- The reason of a failed learn (R120). -/
inductive LearnReason where
  | timeout
  | disturbed
  | link
  | remap
  | stale
  | weak
deriving DecidableEq, Repr

/-- The last result, with the fields present for its ending (R120). -/
structure LastResult where
  code : LearnCode
  reason : Option LearnReason
  target : Option (Target × Stamp)
  abortPort : Option Port
  peaks : Option Peaks
  measured : Option Measured
  revision : Option Half
deriving DecidableEq, Repr

/-- The Learn Engine (Chapter 7). -/
structure Learn where
  state : LearnState
  last : LastResult
deriving DecidableEq, Repr

/-- The causes of an END publication (R89). -/
inductive EndCause where
  | release
  | repick
  | mute
  | link
  | remap
deriving DecidableEq, Repr

/-- The kinds of a tracker's publication (R89). -/
inductive TrackKind where
  | start
  | artic
  | pitch
  | level
  | ended (cause : EndCause)
deriving DecidableEq, Repr

/-- The notice codes (R189). -/
inductive NoticeCode where
  | linkState
  | surpriseLoss
  | channelDrop
  | width
  | overload
  | clockLoss
  | bankAdopted
deriving DecidableEq, Repr

/-- A publication (R12, R29, R89): a tracker's with the fields of the String Context, an AUX, or a NOTICE. -/
inductive Publication where
  | track (n : StringNo) (kind : TrackKind) (note : HeldNote) (level : Nat)
  | aux (x : AuxNo) (value : Nat)
  | notice (code : NoticeCode) (first : Nat) (second : Nat)
deriving DecidableEq, Repr

/-- A publication waiting at a Stream Unit (R132), with its maker, its stamp and the phase in which
it was made (the phase is odd during the handling of a conversion set, even between two). -/
structure Waiting where
  maker : Maker
  stamp : Stamp
  phase : Nat
  pub : Publication
deriving DecidableEq, Repr

/-- The kinds of a NOTE_ON record (R133). -/
inductive OnKind where
  | pick
  | legato
  | step
deriving DecidableEq, Repr

/-- The causes of a NOTE_OFF record (R133). -/
inductive OffCause where
  | release
  | repick
  | legato
  | mute
  | link
  | remap
deriving DecidableEq, Repr

/-- The fields of a record by its kind (R133). -/
inductive Payload where
  | noteOn (note velocity : Nat) (kind : OnKind) (replaced : Option Nat)
  | noteOff (note : Nat) (cause : OffCause)
  | bend (value : Int) (saturated : Bool)
  | level (level : Nat)
  | snapshot (note : Option Nat) (bend : Int) (level : Nat)
  | gap (lost : Nat)
  | cue (source : Port) (code : Half)
  | aux (x : AuxNo) (value : Nat)
  | notice (code : NoticeCode) (first : Nat) (second : Nat)
deriving DecidableEq, Repr

/-- A record: its string or none (string 0), its stamp and its payload (R132, R189). -/
structure Record where
  string : Option StringNo
  stamp : Stamp
  payload : Payload
deriving DecidableEq, Repr

/-- A port view entry (R134). -/
structure ViewEntry where
  note : Option Nat
  bend : Int
  level : Nat
deriving DecidableEq, Repr

/-- The bend mode (R136). -/
inductive BendMode where
  | smooth
  | step
deriving DecidableEq, Repr

/-- The legato policy (R136). -/
inductive LegatoPolicy where
  | legato
  | retrigger
deriving DecidableEq, Repr

/-- The nine stream settings (R136). -/
structure Settings where
  bendMode : BendMode
  bendRange : Nat
  stepHyst : Nat
  bendStep : Nat
  levelStep : Nat
  legatoPolicy : LegatoPolicy
  idleTimeout : Nat
  packetLimit : Nat
  ringLength : Nat
deriving DecidableEq, Repr

/-- The actions of a filter entry (R149). -/
inductive FilterAction where
  | pass
  | flush
  | latch
  | drop
deriving DecidableEq, Repr

/-- A filter entry (R149): a set of the seven kinds (bit 0 NOTE_ON up to bit 6 CUE), a mask of the
six strings (bit 0 string 1), and an action. -/
structure FilterEntry where
  kinds : BitVec 7
  strings : BitVec 6
  action : FilterAction
deriving DecidableEq, Repr

/-- A cue in a cue slot (R152). -/
structure Cue where
  source : Port
  code : Half
deriving DecidableEq, Repr

/-- The causes with which a packet is closed (R157). -/
inductive CloseCause where
  | full
  | idle
  | flush
  | resync
  | stop
  | hold
deriving DecidableEq, Repr

/-- A CLOSED packet: its header (R157, R190) and its records in stored order. -/
structure ClosedPacket where
  seq : Byte
  count : Nat
  cause : CloseCause
  limit : Nat
  firstStamp : Stamp
  records : List Record
deriving DecidableEq, Repr

/-- The OPEN packet: its records, the packet limit in force when it was opened (R158), and what is
left of its idle timer in conversion sets (R159). -/
structure OpenPacket where
  records : List Record
  limit : Nat
  idleLeft : Nat
deriving DecidableEq, Repr

/-- The stream states (section 9.6). -/
inductive StreamState where
  | stopped
  | running
  | held
  | overflow
deriving DecidableEq, Repr

/-- A Stream Unit (Chapters 8 and 9). The ring holds, in ring order, the CLOSED packets oldest to
newest, then the OPEN packet, then the FREE ones from `openPos` (R156); `closed` and `opened` are
the first two, and the FREE packets are the rest of the ring length. -/
structure Stream where
  state : StreamState
  settings : Settings
  filter : List FilterEntry
  view : Six ViewEntry
  latch : Option Record
  cue : Option Cue
  closed : List ClosedPacket
  opened : Option OpenPacket
  openPos : Nat
  nextSeq : Byte
  gap : Nat
  lost : Nat
  overruns : Nat
  waiting : List Waiting
deriving DecidableEq, Repr

/-- The status codes (R179). -/
inductive Status where
  | ok
  | empty
  | busy
  | stale
  | invalid
  | state
  | locked
  | unknown
  | malformed
deriving DecidableEq, Repr

/-- A response: its status and its body (R176, R179). -/
structure Response where
  status : Status
  body : List Byte
deriving DecidableEq, Repr

/-- The transaction states of a Port Interface (R177). -/
inductive Txn where
  | idle
  | receiving
  | waiting
  | answering
  | done
deriving DecidableEq, Repr

/-- A Port Interface (Chapter 10). `csLow` is the level on CSx; `stored` the bytes of a frame that is not
complete, `byteCount` their number, or that of the completed frame; `handed` the answer to come of the
command that is with its owner; `answer` the response queued for sending in the present transaction, and
`sent` how many of its bytes have been sent (R177); `sdo` the last byte sent on SDOx (R176); `sdi` the
bytes that the processor goes on to clock into SDIx, first in, first out (log entry 7). -/
structure PortIf where
  csLow : Bool
  txn : Txn
  stored : List Byte
  byteCount : Nat
  handed : Option Response
  answer : Option Response
  sent : Nat
  sdo : Byte
  sdi : List Byte
  flags : Half
  mask : Half
deriving DecidableEq, Repr

/-- The whole part. `phase` counts the handlings of conversion sets (odd) and the gaps between them
(even), the model's own measure of the one order R132 gives between different makers. `pending` is
the queue of commands and events waiting to be taken, first in, first out. -/
structure State where
  siu : Siu
  link : Link
  cond : Conditioner
  trackers : Six Tracker
  store : Store
  learn : Learn
  streams : Two Stream
  ports : Two PortIf
  phase : Nat
  pending : List Instr
deriving DecidableEq, Repr

/-- Why a step can stop with a fault. No command or event of the part stops it: every error the
spec gives is a status code, a flag, a counter or a notice. So the type has no constructor. -/
inductive Fault where
deriving DecidableEq, Repr

/-- Why a step can be refused. -/
inductive Refusal where
  /-- Raised by an arm of `exec` whose command has no meaning yet; no arm raises it now. Safe: nothing
  is claimed of a command without a meaning. -/
  | notModelled (mnemonic : String)
deriving DecidableEq, Repr

/-- The SIU's state of an input after either reset (R15, R16). R15 gives the rail run length 0 and no sign:
the negative sign here is the model's (DESIGN CHOICE, log entry 27), and is never read while the length
is 0. -/
def SenseInput.reset : SenseInput :=
  { clipRun := false, clip := 0, rail := ⟨false, 0⟩, episode := false, longReported := false,
    stuck := 0, raw := 0 }

/-- The state in which an aux role begins (R2, R15). -/
def AuxUnit.fresh : AuxUnit :=
  { cadence := 0, lastValue := none, published := none, candidate := false, hold := 0 }

/-- The SIU after power-on (R15). -/
def Siu.reset : Siu :=
  { choice := .internal, lock := false, fallback := false, rate := .hz48000, watch := false,
    fed := false, stamp := 0, inputs := Eight.of fun _ => SenseInput.reset, aux6 := .fresh, aux7 := .fresh }

/-- The link monitor after either reset, with the level on PRES as it is then (R34). -/
def Link.resetAt (pres : Bool) : Link :=
  { state := .absent, supply := false, presPin := pres, candidate := pres, holdMs := 0,
    presence := false, delayMs := none, expect := false, floors := Eight.of fun _ => 0,
    dropped := Eight.of fun _ => false, windowMax := Eight.of fun _ => 0,
    stuckSeen := Eight.of fun _ => false, progress := 0, windowEnded := false, width := 0,
    linkCounter := 0 }

/-- The Conditioner after either reset (R49). -/
def Conditioner.reset : Conditioner :=
  { dc := Eight.of fun _ => .held 0, sat := Six.of fun _ => 0 }

/-- The factory open note of a string (R100). -/
def openNote : StringNo → Nat
  | .s1 => 64
  | .s2 => 59
  | .s3 => 55
  | .s4 => 50
  | .s5 => 45
  | .s6 => 40

/-- The factory string profile record (R100, R118). -/
def Profile.factory (n : StringNo) : Profile :=
  { windowLow := openNote n * 100 - 300, windowHigh := openNote n * 100 + 2700, gateOn := 12,
    gateOff := 6, repick := 28, sens := 64, decay := 8, releaseHold := 1440, bleedThinner := 0,
    bleedThicker := 0, override := none, revision := 0 }

/-- The factory global record (R118). -/
def Global.factory : Global :=
  { na := 8, gains := Eight.of fun _ => 0,
    map := ⟨some .sin0, some .sin1, some .sin2, some .sin3, some .sin4, some .sin5⟩,
    offset := 0, grade := .standard, revision := 0 }

/-- The Profile Store after either reset (R118). -/
def Store.factory : Store :=
  { banks := ⟨Six.of Profile.factory, Six.of Profile.factory⟩, global := Global.factory,
    requested := Six.of fun _ => .a }

/-- The working copy of a tracker after either reset (R99). -/
def WorkingCopy.reset (n : StringNo) : WorkingCopy :=
  { windowLow := openNote n * 100 - 300, windowHigh := openNote n * 100 + 2700, gateOn := 12,
    gateOff := 6, repick := 28, sens := 64, decay := 8, releaseHold := 1440, tol := 8,
    onsetTimeout := 1920, jump := 90, floorUsed := 0, gOn := 64, gOff := 24 }

/-- A tracker after either reset (R73, R99). -/
def Tracker.reset (n : StringNo) : Tracker :=
  { state := .muted, note := none, e := 0, articulation := 0, onsetStamp := 0, onsetPeak := 0,
    bank := .a, copy := WorkingCopy.reset n, onsetTimer := none, releaseTimer := none,
    levelTimer := none, armed := false, lastMark := none, history := [], stall := 0, curPeak := 0,
    prevPeak := 0, prevY := 0, clearE := false, clearHistory := false, clearDetector := false,
    noise := 0, reject := 0, ghost := 0 }

/-- The last result when no learn has ended since the reset (R120, R131). -/
def LastResult.empty : LastResult :=
  { code := .none, reason := none, target := none, abortPort := none, peaks := none,
    measured := none, revision := none }

/-- The Learn Engine after either reset (R131). -/
def Learn.reset : Learn := { state := .idle, last := LastResult.empty }

/-- The default stream settings (R136). -/
def Settings.default : Settings :=
  { bendMode := .smooth, bendRange := 2, stepHyst := 20, bendStep := 16, levelStep := 4,
    legatoPolicy := .legato, idleTimeout := 480, packetLimit := 16, ringLength := 8 }

/-- A port view entry that holds no note (R134, R155). -/
def ViewEntry.none : ViewEntry := { note := Option.none, bend := 0, level := 0 }

/-- A Stream Unit after either reset (R155, R175). -/
def Stream.reset : Stream :=
  { state := .stopped, settings := Settings.default, filter := [],
    view := Six.of fun _ => ViewEntry.none, latch := none, cue := none, closed := [],
    opened := none, openPos := 0, nextSeq := 0, gap := 0, lost := 0, overruns := 0, waiting := [] }

/-- A Port Interface after either reset, with the level on CSx and the bytes to be clocked as they are then
(R186, R187): the flag word holds RESET_DONE (bit 9) alone and the mask all ten bits. -/
def PortIf.resetAt (cs : Bool) (sdi : List Byte) : PortIf :=
  { csLow := cs, txn := .idle, stored := [], byteCount := 0, handed := none, answer := none, sent := 0,
    sdo := 0, sdi := sdi, flags := 0x0200, mask := 0x03FF }

/-- The part right after power-on, with PRES unasserted and both chip selects high (these two are
levels on pins, DESIGN CHOICE, log entry 11), and no command or byte waiting. -/
def State.reset : State :=
  { siu := Siu.reset, link := Link.resetAt false, cond := Conditioner.reset,
    trackers := Six.of Tracker.reset, store := Store.factory, learn := Learn.reset,
    streams := ⟨Stream.reset, Stream.reset⟩, ports := ⟨PortIf.resetAt false [], PortIf.resetAt false []⟩,
    phase := 0, pending := [] }

end Sys2Proof.Machine
end

