-- ==== Sys2Proof/Machine/Flags.lean ====
section
/-!
DEFINITION. The port flag word, the attention mask and the attention line (section 10.5).
-/

namespace Sys2Proof.Machine

/-- The ten port flags (R183). -/
inductive Flag where
  | pkt
  | lost
  | latch
  | latchOvr
  | cuePlaced
  | learnDone
  | link
  | fault
  | peerCommit
  | resetDone
deriving DecidableEq, Repr

/-- The bit of a flag in the flag word (R183). -/
def Flag.bit : Flag → Nat
  | .pkt => 0
  | .lost => 1
  | .latch => 2
  | .latchOvr => 3
  | .cuePlaced => 4
  | .learnDone => 5
  | .link => 6
  | .fault => 7
  | .peerCommit => 8
  | .resetDone => 9

/-- The flag word in which this flag alone is set (R183). -/
def Flag.word (f : Flag) : Half := BitVec.ofNat 16 (2 ^ f.bit)

/-- The bits a flag word or a mask can hold: bits 10 to 15 are always 0 (R183, R185). -/
def flagBits : Half := 0x03FF

/-- A flag is set in a flag word. -/
def Flag.isSet (f : Flag) (w : Half) : Bool := w.getLsbD f.bit

/-- Raising a flag sets it; one already set stays set (R183). -/
def raiseIn (w : Half) (f : Flag) : Half := w ||| f.word

/-- Clearing by a word clears every flag whose bit is 1 in it; bits 10 to 15 are ignored (R184). -/
def clearIn (w word : Half) : Half := w &&& ~~~(word &&& flagBits)

/-- The mask that SET_ATTN_MASK stores: bits 0 to 9 of the word (R185). -/
def maskOf (word : Half) : Half := word &&& flagBits

/-- The flags STREAM_CONTROL RESET clears: PKT, LOST, LATCH and LATCH_OVR (R173). -/
def streamFlags : Half := Flag.pkt.word ||| Flag.lost.word ||| Flag.latch.word ||| Flag.latchOvr.word

/-- The attention line is driven low while a flag is set whose mask bit is 1 (R185). -/
def PortIf.attnLow (q : PortIf) : Bool := q.flags &&& q.mask != 0

/-- The part with one Port Interface changed. -/
def State.updPort (s : State) (p : Port) (f : PortIf → PortIf) : State :=
  { s with ports := s.ports.set p (f (s.ports.get p)) }

/-- Raise a flag at one port (R183). -/
def State.raise (s : State) (p : Port) (f : Flag) : State :=
  s.updPort p fun q => { q with flags := raiseIn q.flags f }

/-- Raise a flag at both ports. -/
def State.raiseBoth (s : State) (f : Flag) : State := (s.raise .a f).raise .b f

end Sys2Proof.Machine
end

