-- ==== Sys2Proof/Machine/Operands.lean ====
section
/-!
DEFINITION. The byte formats of the part: codes (R179, R188), records and packets (R189, R190),
images (R191, R192) and bodies (R182, R193), most significant byte first (R176).
-/

namespace Sys2Proof.Machine

/-! ### Bytes -/

/-- A number as one byte. -/
def byte (n : Nat) : List Byte := [BitVec.ofNat 8 n]

/-- A truth value as one byte. -/
def bit (b : Bool) : List Byte := [if b then 1 else 0]

/-- A 16-bit word, most significant byte first. -/
def be16 (w : BitVec 16) : List Byte := [w.extractLsb' 8 8, w.extractLsb' 0 8]

/-- A 24-bit word, most significant byte first. -/
def be24 (w : BitVec 24) : List Byte :=
  [w.extractLsb' 16 8, w.extractLsb' 8 8, w.extractLsb' 0 8]

/-- A 32-bit word, most significant byte first. -/
def be32 (w : BitVec 32) : List Byte :=
  [w.extractLsb' 24 8, w.extractLsb' 16 8, w.extractLsb' 8 8, w.extractLsb' 0 8]

/-- A number as two bytes. -/
def num16 (n : Nat) : List Byte := be16 (BitVec.ofNat 16 n)

/-- A number as three bytes. -/
def num24 (n : Nat) : List Byte := be24 (BitVec.ofNat 24 n)

/-- A signed number as two bytes in two's complement (R176). -/
def int16 (v : Int) : List Byte := be16 (BitVec.ofInt 16 v)

/-- A presence byte and the bytes it covers: 0 and zeros when absent, 1 and the value when present
(R181, R193). -/
def optional (len : Nat) (v : Option (List Byte)) : List Byte :=
  match v with
  | none => 0 :: List.replicate len 0
  | some b => 1 :: b

/-! ### Codes -/

/-- The status byte (R179). -/
def Status.byte : Status → Byte
  | .ok => 0x80
  | .empty => 0x81
  | .busy => 0x82
  | .stale => 0x83
  | .invalid => 0x84
  | .state => 0x85
  | .locked => 0x86
  | .unknown => 0x87
  | .malformed => 0x88

/-- Clock choice codes (R188). -/
def ClockChoice.code : ClockChoice → Nat
  | .internal => 0
  | .word48 => 1
  | .word44 => 2

/-- The clock choice a code names, if it names one (R9, R188). -/
def ClockChoice.ofCode? : Nat → Option ClockChoice
  | 0 => some .internal
  | 1 => some .word48
  | 2 => some .word44
  | _ => none

/-- Active rate: 0 for 48,000, 1 for 44,100 (R182). -/
def Rate.code : Rate → Nat
  | .hz48000 => 0
  | .hz44100 => 1

/-- Link state codes (R188). -/
def LinkState.code : LinkState → Nat
  | .disabled => 0
  | .absent => 1
  | .powering => 2
  | .settling => 3
  | .active => 4
  | .overload => 5

/-- Tracker state codes (R188). -/
def TrackState.code : TrackState → Nat
  | .muted => 0
  | .silent => 1
  | .onset => 2
  | .sounding => 3
  | .releasing => 4

/-- Learn state codes (R188). -/
def LearnState.code : LearnState → Nat
  | .idle => 0
  | .armed .. => 1
  | .capture .. => 2

/-- Learn result codes (R188). -/
def LearnCode.code : LearnCode → Nat
  | .none => 0
  | .done => 1
  | .failed => 2
  | .aborted => 3

/-- Learn failure reasons (R188). -/
def LearnReason.code : LearnReason → Nat
  | .timeout => 1
  | .disturbed => 2
  | .link => 3
  | .remap => 4
  | .stale => 5
  | .weak => 6

/-- Stream state codes (R188). -/
def StreamState.code : StreamState → Nat
  | .stopped => 0
  | .running => 1
  | .held => 2
  | .overflow => 3

/-- Bend mode codes (R188). -/
def BendMode.code : BendMode → Nat
  | .smooth => 0
  | .step => 1

/-- The bend mode a code names, if it names one. -/
def BendMode.ofCode? : Nat → Option BendMode
  | 0 => some .smooth
  | 1 => some .step
  | _ => none

/-- Legato policy codes (R188). -/
def LegatoPolicy.code : LegatoPolicy → Nat
  | .legato => 0
  | .retrigger => 1

/-- The legato policy a code names, if it names one. -/
def LegatoPolicy.ofCode? : Nat → Option LegatoPolicy
  | 0 => some .legato
  | 1 => some .retrigger
  | _ => none

/-- Grade codes (R188). -/
def Grade.code : Grade → Nat
  | .fast => 0
  | .standard => 1
  | .robust => 2

/-- The grade a code names, if it names one. -/
def Grade.ofCode? : Nat → Option Grade
  | 0 => some .fast
  | 1 => some .standard
  | 2 => some .robust
  | _ => none

/-- Filter action codes (R181). -/
def FilterAction.code : FilterAction → Nat
  | .pass => 0
  | .flush => 1
  | .latch => 2
  | .drop => 3

/-- The filter action a code names, if it names one. -/
def FilterAction.ofCode? : Nat → Option FilterAction
  | 0 => some .pass
  | 1 => some .flush
  | 2 => some .latch
  | 3 => some .drop
  | _ => none

/-- NOTE_ON kinds (R189). -/
def OnKind.code : OnKind → Nat
  | .pick => 0
  | .legato => 1
  | .step => 2

/-- NOTE_OFF causes (R189). -/
def OffCause.code : OffCause → Nat
  | .release => 0
  | .repick => 1
  | .legato => 2
  | .mute => 3
  | .link => 4
  | .remap => 5

/-- Close causes (R190). -/
def CloseCause.code : CloseCause → Nat
  | .full => 1
  | .idle => 2
  | .flush => 3
  | .resync => 4
  | .stop => 5
  | .hold => 6

/-- Notice codes (R189). -/
def NoticeCode.code : NoticeCode → Nat
  | .linkState => 1
  | .surpriseLoss => 2
  | .channelDrop => 3
  | .width => 4
  | .overload => 5
  | .clockLoss => 6
  | .bankAdopted => 7

/-- Record kind codes (R189). -/
def Payload.kindCode : Payload → Nat
  | .noteOn .. => 1
  | .noteOff .. => 2
  | .bend .. => 3
  | .level .. => 4
  | .snapshot .. => 5
  | .gap .. => 6
  | .cue .. => 7
  | .aux .. => 8
  | .notice .. => 9

/-- The bit of a record's kind in a filter entry's kind set (R181); GAP and SNAPSHOT are in no kind
set, since they do not pass through the table (R150). -/
def Payload.filterBit? : Payload → Option Nat
  | .noteOn .. => some 0
  | .noteOff .. => some 1
  | .bend .. => some 2
  | .level .. => some 3
  | .aux .. => some 4
  | .notice .. => some 5
  | .cue .. => some 6
  | .snapshot .. => none
  | .gap .. => none

/-! ### Records and packets -/

/-- A note byte, 0xFF for none (R189). -/
def noteByte (n : Option Nat) : List Byte :=
  match n with
  | none => [0xFF]
  | some k => byte k

/-- Bytes 4 to 7 of a record (R189). -/
def Payload.bytes : Payload → List Byte
  | .noteOn m v kind replaced => byte m ++ byte v ++ byte kind.code ++ noteByte replaced
  | .noteOff m cause => byte m ++ byte cause.code ++ [0, 0]
  | .bend v sat => int16 v ++ bit sat ++ [0]
  | .level l => byte l ++ [0, 0, 0]
  | .snapshot m v l => noteByte m ++ int16 v ++ byte l
  | .gap lost => num16 lost ++ [0, 0]
  | .cue src c => byte src.code ++ be16 c ++ [0]
  | .aux x v => byte x.sin.number ++ byte v ++ [0, 0]
  | .notice c a1 a2 => byte c.code ++ byte a1 ++ byte a2 ++ [0]

/-- The string number of a record, 0 for a record without a string (R132). -/
def Record.stringNumber (r : Record) : Nat :=
  match r.string with
  | none => 0
  | some n => n.number

/-- The eight bytes of a record (R189). -/
def Record.bytes (r : Record) : List Byte :=
  byte (16 * r.payload.kindCode + r.stringNumber) ++ be24 r.stamp ++ r.payload.bytes

/-- The body of FETCH: the eight header bytes and the records (R190). -/
def ClosedPacket.bytes (k : ClosedPacket) : List Byte :=
  [k.seq] ++ byte k.count ++ byte k.cause.code ++ byte k.limit ++ be24 k.firstStamp ++ [0] ++
    k.records.flatMap Record.bytes

/-! ### Images -/

/-- The bytes of a profile image (R191). -/
def imageBytes (m : ProfileImage) : List Byte :=
  be16 m.windowLow ++ be16 m.windowHigh ++
    [m.gateOn, m.gateOff, m.repick, m.sens, m.decay] ++ be16 m.releaseHold ++
    be16 m.bleedThinner ++ be16 m.bleedThicker ++ [m.marks, m.tol] ++ be16 m.onsetTimeout ++
    be16 m.jump ++ be16 m.revision

/-- The mark of an override field: 1 present, 0 absent (R191). -/
def markOf (v : Option Nat) : Nat :=
  match v with
  | none => 0
  | some _ => 1

/-- The override marks byte of a record (R191). -/
def overrideMarks (o : Option Override) : Nat :=
  match o with
  | none => 0
  | some v => 1 + 4 * markOf v.tol + 16 * markOf v.onsetTimeout + 64 * markOf v.jump

/-- A field of the override part, 0 when it or the part is absent (R191). -/
def overrideField (o : Option Override) (f : Override → Option Nat) : Nat :=
  (o.bind f).getD 0

/-- The image of a stored profile record (R191). -/
def Profile.image (r : Profile) : ProfileImage :=
  { windowLow := BitVec.ofNat 16 r.windowLow, windowHigh := BitVec.ofNat 16 r.windowHigh,
    gateOn := BitVec.ofNat 8 r.gateOn, gateOff := BitVec.ofNat 8 r.gateOff,
    repick := BitVec.ofNat 8 r.repick, sens := BitVec.ofNat 8 r.sens,
    decay := BitVec.ofNat 8 r.decay, releaseHold := BitVec.ofNat 16 r.releaseHold,
    bleedThinner := BitVec.ofNat 16 r.bleedThinner, bleedThicker := BitVec.ofNat 16 r.bleedThicker,
    marks := BitVec.ofNat 8 (overrideMarks r.override),
    tol := BitVec.ofNat 8 (overrideField r.override Override.tol),
    onsetTimeout := BitVec.ofNat 16 (overrideField r.override Override.onsetTimeout),
    jump := BitVec.ofNat 16 (overrideField r.override Override.jump), revision := r.revision }

/-- The bytes of a global image (R192). -/
def globalBytes (m : GlobalImage) : List Byte :=
  [m.na] ++ m.gains.toList ++ m.map.toList ++ [m.offset, m.grade] ++ be16 m.revision

/-- A map entry as a byte, 0xFF for NONE (R192). -/
def mapByte (e : Option Sin) : Byte :=
  match e with
  | none => 0xFF
  | some i => BitVec.ofNat 8 i.number

/-- The image of the stored global record (R192). -/
def Global.image (g : Global) : GlobalImage :=
  { na := BitVec.ofNat 8 g.na, gains := Eight.of fun i => BitVec.ofNat 8 (g.gains.get i),
    map := Six.of fun n => mapByte (g.map.get n), offset := BitVec.ofInt 8 g.offset,
    grade := BitVec.ofNat 8 g.grade.code, revision := g.revision }

/-- The bytes of a settings image (R181). -/
def settingsBytes (m : SettingsImage) : List Byte :=
  [m.bendMode, m.bendRange, m.stepHyst] ++ be16 m.bendStep ++ [m.levelStep, m.legatoPolicy] ++
    be16 m.idleTimeout ++ [m.packetLimit, m.ringLength]

/-- The image of the settings in force (R181). -/
def Settings.image (t : Settings) : SettingsImage :=
  { bendMode := BitVec.ofNat 8 t.bendMode.code, bendRange := BitVec.ofNat 8 t.bendRange,
    stepHyst := BitVec.ofNat 8 t.stepHyst, bendStep := BitVec.ofNat 16 t.bendStep,
    levelStep := BitVec.ofNat 8 t.levelStep, legatoPolicy := BitVec.ofNat 8 t.legatoPolicy.code,
    idleTimeout := BitVec.ofNat 16 t.idleTimeout, packetLimit := BitVec.ofNat 8 t.packetLimit,
    ringLength := BitVec.ofNat 8 t.ringLength }

/-- The three bytes of a filter entry (R181). -/
def FilterEntry.bytes (e : FilterEntry) : List Byte :=
  [e.kinds.setWidth 8, e.strings.setWidth 8] ++ byte e.action.code

/-! ### Responses and bodies -/

/-- OK with a body. -/
def ok (body : List Byte) : Response := { status := .ok, body := body }

/-- A refusal, or EMPTY, with an empty body. -/
def refuse (st : Status) : Response := { status := st, body := [] }

/-- What the part sends on SDOx for a response: status, two bytes of length, the body (R176). -/
def Response.bytes (r : Response) : List Byte := r.status.byte :: (num16 r.body.length ++ r.body)

/-- The last result, 30 bytes (R193). -/
def LastResult.bytes (r : LastResult) : List Byte :=
  byte r.code.code ++
  optional 1 (r.reason.map fun x => byte x.code) ++
  optional 8 (r.target.map fun x =>
    byte x.1.string.number ++ byte x.1.bank.code ++ be16 x.1.base ++ byte x.1.port.code ++ be24 x.2) ++
  optional 1 (r.abortPort.map fun x => byte x.code) ++
  optional 6 (r.peaks.map fun x => num16 x.own ++ num16 x.thinner ++ num16 x.thicker) ++
  optional 5 (r.measured.map fun x => num16 x.bleedThinner ++ num16 x.bleedThicker ++ byte x.sens) ++
  optional 2 (r.revision.map be16)

/-- The target group of LEARN_STATUS, present while a learn is in flight (R193). -/
def LearnState.targetBytes : LearnState → Option (List Byte)
  | .idle => none
  | .armed t _ => some (byte t.string.number ++ byte t.bank.code ++ be16 t.base ++ byte t.port.code)
  | .capture t _ _ _ =>
    some (byte t.string.number ++ byte t.bank.code ++ be16 t.base ++ byte t.port.code)

/-- The arm timer of LEARN_STATUS, present in ARMED (R193). -/
def LearnState.armBytes : LearnState → Option (List Byte)
  | .armed _ ms => some (num16 ms)
  | _ => none

/-- The capture group of LEARN_STATUS, present in CAPTURE (R193). -/
def LearnState.captureBytes : LearnState → Option (List Byte)
  | .capture _ count k handed =>
    some (num16 count ++ num16 k.own ++ num16 k.thinner ++ num16 k.thicker ++ bit handed.isSome)
  | _ => none

/-- The body of LEARN_STATUS, 50 bytes (R193). -/
def Learn.bytes (l : Learn) : List Byte :=
  byte l.state.code ++ optional 5 l.state.targetBytes ++ optional 2 l.state.armBytes ++
    optional 9 l.state.captureBytes ++ l.last.bytes

/-- The level of a string: floor(E / 256), capped at 127 (R53). -/
def levelOf (e : Nat) : Nat := min 127 (e / 256)

/-- The working copy's part of READ_CONTEXT (R98, R193). -/
def WorkingCopy.bytes (c : WorkingCopy) : List Byte :=
  num16 c.windowLow ++ num16 c.windowHigh ++
    byte c.gateOn ++ byte c.gateOff ++ byte c.repick ++ byte c.sens ++ byte c.decay ++
    num16 c.releaseHold ++ byte c.tol ++ num16 c.onsetTimeout ++ num16 c.jump ++
    num16 c.floorUsed ++ num24 c.gOn ++ num24 c.gOff

/-- A slot of the interval history, 0 beyond its length (R193). -/
def historySlot (h : List Nat) (k : Nat) : List Byte := num16 ((h[k]?).getD 0)

/-- The body of READ_CONTEXT, 70 bytes (R98, R193). -/
def Tracker.bytes (t : Tracker) (requested : Bank) : List Byte :=
  byte t.state.code ++
  optional 1 (t.note.map fun m => byte m.anchor) ++
  optional 2 (t.note.map fun m => int16 m.pitch) ++
  optional 1 (t.note.map fun m => byte m.velocity) ++
  num16 t.e ++ byte (levelOf t.e) ++ [t.articulation] ++ be24 t.onsetStamp ++ num16 t.onsetPeak ++
  byte t.bank.code ++ byte requested.code ++ t.copy.bytes ++
  optional 2 (t.onsetTimer.map num16) ++ optional 2 (t.releaseTimer.map num16) ++
  optional 1 (t.levelTimer.map byte) ++ bit t.armed ++
  optional 4 (t.lastMark.map fun m => be32 (m.setWidth 32)) ++ num16 t.stall ++
  byte t.history.length ++ historySlot t.history 0 ++ historySlot t.history 1 ++
  historySlot t.history 2 ++ num16 t.curPeak ++ num16 t.prevPeak

/-- One entry of the port view in READ_STREAM (R193). -/
def ViewEntry.bytes (v : ViewEntry) : List Byte :=
  optional 1 (v.note.map byte) ++ int16 v.bend ++ byte v.level

/-- The number of packets that are OPEN, 0 or 1 (R156). -/
def Stream.openCount (t : Stream) : Nat := if t.opened.isSome then 1 else 0

/-- The number of FREE packets: the rest of the ring (R156). -/
def Stream.freeCount (t : Stream) : Nat := t.settings.ringLength - (t.closed.length + t.openCount)

/-- The body of READ_STREAM, 60 bytes (R139, R174, R193). -/
def Stream.bytes (t : Stream) : List Byte :=
  settingsBytes t.settings.image ++ t.view.toList.flatMap ViewEntry.bytes ++
  optional 1 (t.latch.map fun r => byte r.payload.kindCode) ++
  optional 3 (t.cue.map fun c => byte c.source.code ++ be16 c.code) ++
  byte t.state.code ++ byte t.freeCount ++ byte t.openCount ++ byte t.closed.length ++
  optional 1 (t.closed.head?.map fun k => [k.seq]) ++ [t.nextSeq] ++
  optional 3 (t.opened.map fun k => byte k.records.length ++ num16 k.idleLeft) ++ num16 t.gap

/-- The requested banks of strings 1..6 (R181). -/
def requestedBytes (v : Six Bank) : List Byte := v.toList.flatMap fun k => byte k.code

end Sys2Proof.Machine
end

