-- ==== Sys2Proof/Machine/Frames.lean ====
section
/-!
DEFINITION. The command table of R181: codes, argument lengths, and the command that a completed
frame of the right length spells.
-/

namespace Sys2Proof.Machine

/-- The code of LINK_CONTROL (R181). -/
def linkControlCode : Byte := 0x40
/-- The code of STREAM_CONTROL (R181). -/
def streamControlCode : Byte := 0x64

/-- The argument length n the command table gives a code, none for a code that names no command; for
SET_FILTER it is 1 + 3 times the count in the first argument byte (R178, R181). -/
def argLength? (code : Byte) (args : List Byte) : Option Nat :=
  match code.toNat with
  | 0x01 => some 0
  | 0x02 => some 0
  | 0x03 => some 1
  | 0x10 => some 0
  | 0x11 => some 2
  | 0x12 => some 2
  | 0x20 => some 1
  | 0x21 => some 2
  | 0x22 => some 0
  | 0x30 => some 2
  | 0x31 => some 27
  | 0x32 => some 0
  | 0x33 => some 21
  | 0x34 => some 2
  | 0x40 => some 1
  | 0x50 => some 4
  | 0x51 => some 0
  | 0x52 => some 0
  | 0x60 => some 11
  | 0x61 => some 0
  | 0x62 => some (1 + 3 * (args.headD 0).toNat)
  | 0x63 => some 0
  | 0x64 => some 1
  | 0x65 => some 0
  | 0x66 => some 1
  | 0x67 => some 0
  | 0x68 => some 3
  | 0x69 => some 0
  | 0x6A => some 0
  | _ => none

/-- The frame is a LINK_CONTROL or STREAM_CONTROL whose subcommand names none of the commands (R30, R168). -/
def badSubcommand (code : Byte) (args : List Byte) : Bool :=
  match args with
  | [b] => (code == linkControlCode && decide (4 ≤ b.toNat)) ||
      (code == streamControlCode && decide (6 ≤ b.toNat))
  | _ => false

/-- Two bytes as a 16-bit number, most significant byte first (R176). -/
def half (hi lo : Byte) : Half := hi ++ lo

/-- The filter entries of the bytes behind the count, three bytes each (R181). -/
def filterImages : List Byte → List FilterImage
  | k :: m :: a :: l => ⟨k, m, a⟩ :: filterImages l
  | _ => []

/-- The link command a subcommand names (R188). -/
def linkCommand? (p : Port) (b : Byte) : Option Instr :=
  match b.toNat with
  | 0 => some (.retrain p)
  | 1 => some (.disable p)
  | 2 => some (.enable p)
  | 3 => some (.expectRemoval p)
  | _ => none

/-- The stream command a subcommand names (R188). -/
def streamCommand? (p : Port) (b : Byte) : Option Instr :=
  match b.toNat with
  | 0 => some (.streamStart p)
  | 1 => some (.streamStop p)
  | 2 => some (.streamHold p)
  | 3 => some (.streamResume p)
  | 4 => some (.streamResync p)
  | 5 => some (.streamReset p)
  | _ => none

/-- The image of a string profile record in its 23 bytes (R191). -/
def profileImage? : List Byte → Option ProfileImage
  | [a0, a1, b0, b1, c, d, e, f, g, h0, h1, i0, i1, j0, j1, k, l, m0, m1, n0, n1, o0, o1] =>
    some { windowLow := half a0 a1, windowHigh := half b0 b1, gateOn := c, gateOff := d, repick := e,
           sens := f, decay := g, releaseHold := half h0 h1, bleedThinner := half i0 i1,
           bleedThicker := half j0 j1, marks := k, tol := l, onsetTimeout := half m0 m1,
           jump := half n0 n1, revision := half o0 o1 }
  | _ => none

/-- The image of the global record in its 19 bytes (R192). -/
def globalImage? : List Byte → Option GlobalImage
  | [a, g0, g1, g2, g3, g4, g5, g6, g7, m1, m2, m3, m4, m5, m6, o, g, r0, r1] =>
    some { na := a, gains := ⟨g0, g1, g2, g3, g4, g5, g6, g7⟩, map := ⟨m1, m2, m3, m4, m5, m6⟩,
           offset := o, grade := g, revision := half r0 r1 }
  | _ => none

/-- The image of the settings in its 11 bytes (R181). -/
def settingsImage? : List Byte → Option SettingsImage
  | [a, b, c, d0, d1, e, f, g0, g1, h, i] =>
    some { bendMode := a, bendRange := b, stepHyst := c, bendStep := half d0 d1, levelStep := e,
           legatoPolicy := f, idleTimeout := half g0 g1, packetLimit := h, ringLength := i }
  | _ => none

/-- The command that the arguments of a code spell (R181, R188, R191, R192). -/
def commandOf? (p : Port) (code : Byte) (args : List Byte) : Option Instr :=
  match code.toNat, args with
  | 0x01, [] => some (.identify p)
  | 0x02, [] => some (.partReset p)
  | 0x03, [c] => some (.setClock p c)
  | 0x10, [] => some (.readStatus p)
  | 0x11, [h, l] => some (.clearFlags p (half h l))
  | 0x12, [h, l] => some (.setAttnMask p (half h l))
  | 0x20, [n] => some (.readContext p n)
  | 0x21, [k, n] => some (.readCounters p k n)
  | 0x22, [] => some (.readFloors p)
  | 0x30, [k, n] => some (.readProfile p k n)
  | 0x31, k :: n :: h :: l :: m => (profileImage? m).map fun m => .editProfile p k n (half h l) m
  | 0x32, [] => some (.readGlobal p)
  | 0x33, h :: l :: m => (globalImage? m).map fun m => .editGlobal p (half h l) m
  | 0x34, [m, k] => some (.selectBank p m k)
  | 0x40, [b] => linkCommand? p b
  | 0x50, [n, k, h, l] => some (.learnStart p n k (half h l))
  | 0x51, [] => some (.learnAbort p)
  | 0x52, [] => some (.learnStatus p)
  | 0x60, m => (settingsImage? m).map fun m => .setStream p m
  | 0x61, [] => some (.readStream p)
  | 0x62, _ :: m => some (.setFilter p (filterImages m))
  | 0x63, [] => some (.readFilter p)
  | 0x64, [b] => streamCommand? p b
  | 0x65, [] => some (.fetch p)
  | 0x66, [q] => some (.release p q)
  | 0x67, [] => some (.readLatch p)
  | 0x68, [d, h, l] => some (.postCue p d (half h l))
  | 0x69, [] => some (.readPortCounters p)
  | 0x6A, [] => some (.clearPortCounters p)
  | _, _ => none

/-- The row that a completed frame is (R178): UNKNOWN_COMMAND for a code of no command, MALFORMED_FRAME
for a wrong length, else the command it spells. A subcommand that names nothing comes under
UNKNOWN_COMMAND, whose meaning refuses it INVALID (log entry 12). -/
def frameRow (p : Port) (code : Byte) (args : List Byte) : Instr :=
  match argLength? code args with
  | none => .unknownCommand p code args
  | some n =>
    if args.length = n then (commandOf? p code args).getD (.unknownCommand p code args)
    else .malformedFrame p code args

/-- The port, the code and the argument bytes of a command frame, none for a row that is no command
(R176, R181). -/
def frameOf? : Instr → Option (Port × Byte × List Byte)
  | .identify p => some (p, 0x01, [])
  | .partReset p => some (p, 0x02, [])
  | .setClock p c => some (p, 0x03, [c])
  | .readStatus p => some (p, 0x10, [])
  | .clearFlags p w => some (p, 0x11, be16 w)
  | .setAttnMask p w => some (p, 0x12, be16 w)
  | .readContext p n => some (p, 0x20, [n])
  | .readCounters p k n => some (p, 0x21, [k, n])
  | .readFloors p => some (p, 0x22, [])
  | .readProfile p k n => some (p, 0x30, [k, n])
  | .editProfile p k n base m => some (p, 0x31, [k, n] ++ be16 base ++ imageBytes m)
  | .readGlobal p => some (p, 0x32, [])
  | .editGlobal p base m => some (p, 0x33, be16 base ++ globalBytes m)
  | .selectBank p m k => some (p, 0x34, [m, k])
  | .retrain p => some (p, 0x40, [0])
  | .disable p => some (p, 0x40, [1])
  | .enable p => some (p, 0x40, [2])
  | .expectRemoval p => some (p, 0x40, [3])
  | .learnStart p n k base => some (p, 0x50, [n, k] ++ be16 base)
  | .learnAbort p => some (p, 0x51, [])
  | .learnStatus p => some (p, 0x52, [])
  | .setStream p m => some (p, 0x60, settingsBytes m)
  | .readStream p => some (p, 0x61, [])
  | .setFilter p l =>
    some (p, 0x62, byte l.length ++ l.flatMap fun m => [m.kinds, m.strings, m.action])
  | .readFilter p => some (p, 0x63, [])
  | .streamStart p => some (p, 0x64, [0])
  | .streamStop p => some (p, 0x64, [1])
  | .streamHold p => some (p, 0x64, [2])
  | .streamResume p => some (p, 0x64, [3])
  | .streamResync p => some (p, 0x64, [4])
  | .streamReset p => some (p, 0x64, [5])
  | .fetch p => some (p, 0x65, [])
  | .release p q => some (p, 0x66, [q])
  | .readLatch p => some (p, 0x67, [])
  | .postCue p d c => some (p, 0x68, [d] ++ be16 c)
  | .readPortCounters p => some (p, 0x69, [])
  | .clearPortCounters p => some (p, 0x6A, [])
  | .unknownCommand p code args => some (p, code, args)
  | .malformedFrame p code args => some (p, code, args)
  | .busyFrame p code args => some (p, code, args)
  | .powerOn => none
  | .conversionSet _ _ _ => none
  | .stuckEpisodeBegin _ => none
  | .stuckLong _ => none
  | .auxEvaluation _ => none
  | .digitalAuxPublish _ => none
  | .settleWindowEnd => none
  | .stall _ => none
  | .onsetTimeout _ => none
  | .releaseTimerEnd _ => none
  | .levelTimer _ => none
  | .wordClockLoss => none
  | .presChange _ => none
  | .presenceBecomesTrue => none
  | .presenceBecomesFalse => none
  | .powerUpDelayEnd => none
  | .overCurrent => none
  | .armTimerExpiry => none
  | .captureEnd => none
  | .learnCommit => none
  | .publicationTaken _ _ => none
  | .idleTimerExpiry _ => none
  | .csFall _ => none
  | .csRise _ => none
  | .responseReady _ => none

end Sys2Proof.Machine
end

