-- ==== Sys2Proof/WellFormed.lean ====
section
/-!
DEFINITION. Which terms of `Instr` stand for something that can happen: an argument length is one
byte (R176), and the three rows for frames that are not decoded to a command hold only such frames.
-/

namespace Sys2Proof

open Machine

/-- The arguments fit a frame, whose length byte is 0..255 (R176). -/
def argsFit (args : List Byte) : Bool := decide (args.length ≤ 255)

/-- A command or event can be sent or can occur. UNKNOWN_COMMAND holds a code of no command, or a
subcommand of none; MALFORMED_FRAME holds the code of a command with a wrong length (R178); SET_FILTER
has as many entries as its length byte can say, 1 + 3k ≤ 255. -/
def Instr.wellFormed : Instr → Bool
  | .setFilter _ entries => decide (entries.length ≤ 84)
  | .unknownCommand _ code args =>
    argsFit args && ((argLength? code args).isNone || badSubcommand code args)
  | .malformedFrame _ code args =>
    argsFit args &&
      match argLength? code args with
      | none => false
      | some n => args.length != n
  | .busyFrame _ _ args => argsFit args
  | _ => true

end Sys2Proof
end

