-- ==== Sys2Proof/Decode.lean ====
section
/-!
DEFINITION. What a word of the opcode table's bits spells: spec/opcode_table.json gives no row any
bits, so no word spells a command. The decoding of a command frame from its bytes (R178, R181) is
`frameRow`, by the byte codes of the spec's command table.
-/

namespace Sys2Proof

/-- The command a word spells by the bits spec/opcode_table.json gives: it gives none for any row. -/
def decodeTableWord (_nbits _w : Nat) : Option Instr := none

/-- The row that the bytes of a completed frame at a port are: byte 0 the code, byte 1 the number of
argument bytes, then the arguments (R176, R178). Bytes too few for the length they state are no
complete frame; bytes behind the last argument are filler. -/
def decodeFrame (p : Port) (bytes : List Byte) : Option Instr :=
  match bytes with
  | code :: n :: rest =>
    if n.toNat ≤ rest.length then some (Machine.frameRow p code (rest.take n.toNat)) else none
  | _ => none

/-- The bytes of a command's frame (R176), none for a row that is no command frame. -/
def encodeFrame (c : Instr) : Option (List Byte) :=
  (Machine.frameOf? c).map fun f => f.2.1 :: BitVec.ofNat 8 f.2.2.length :: f.2.2

end Sys2Proof
end

