-- ==== Sys2Proof/Machine/Ops.lean ====
section
/-!
DEFINITION. The named operations that every block's rules share: changing one tracker, one stream
or one port; making a publication; reading the roles of inputs, the usability of strings and the
width from the records and the link.
-/

namespace Sys2Proof.Machine

/-- The outcome type of a command's meaning. -/
abbrev Result := Host.Outcome State Fault Refusal

/-- The part with one tracker changed. -/
def State.updTracker (s : State) (n : StringNo) (f : Tracker → Tracker) : State :=
  { s with trackers := s.trackers.set n (f (s.trackers.get n)) }

/-- The part with one Stream Unit changed. -/
def State.updStream (s : State) (p : Port) (f : Stream → Stream) : State :=
  { s with streams := s.streams.set p (f (s.streams.get p)) }

/-- A publication is put behind those waiting at both Stream Units, with the stamp of the most recent
conversion set, which is that of the event (R7, R14, R29, R77, R132). -/
def State.publish (s : State) (m : Maker) (pub : Publication) : State :=
  let w : Waiting := { maker := m, stamp := s.siu.stamp, phase := s.phase, pub := pub }
  (s.updStream .a fun t => { t with waiting := t.waiting ++ [w] }).updStream .b
    fun t => { t with waiting := t.waiting ++ [w] }

/-- A change made for each string in turn, 1 to 6. -/
def State.forStrings (s : State) (f : StringNo → State → State) : State :=
  StringNo.all.foldl (fun t n => f n t) s

/-- The active rate in hertz (R9). -/
def Rate.hz : Rate → Nat
  | .hz48000 => 48000
  | .hz44100 => 44100

/-! ### Roles of the inputs (R2) -/

/-- SIN0..SIN(NA-1) are analog inputs (R2). -/
def Global.analog (g : Global) (i : Sin) : Bool := i.number < g.na

/-- The string whose map entry names an input, if one does; a stored map names distinct inputs (R102). -/
def Global.stringOf (g : Global) (i : Sin) : Option StringNo :=
  StringNo.all.find? fun n => g.map.get n == some i

/-- The role of an input (R2). -/
inductive Role where
  | stringInput
  | analogAux
  | unused
  | digitalAux
deriving DecidableEq, Repr

/-- SIN6 and SIN7 are the inputs that can serve an auxiliary line (R2). -/
def canBeAux : Sin → Bool
  | .sin6 => true
  | .sin7 => true
  | _ => false

/-- The role the global record gives an input (R2). -/
def Global.role (g : Global) (i : Sin) : Role :=
  if g.analog i then
    if (g.stringOf i).isSome then .stringInput
    else if canBeAux i then .analogAux else .unused
  else .digitalAux

/-! ### Usability and width (R28) -/

/-- A map entry names an input that is not dropped: the string is a conditioned string (R38). -/
def conditioned (g : Global) (dropped : Eight Bool) (n : StringNo) : Bool :=
  match g.map.get n with
  | none => false
  | some i => !dropped.get i

/-- A string is usable when the link is ACTIVE, its map entry names an input, and that input is not
dropped (R28). -/
def State.usable (s : State) (n : StringNo) : Bool :=
  s.link.state == .active && conditioned s.store.global s.link.dropped n

/-- The number of usable strings (R28). -/
def State.usableCount (s : State) : Nat := (StringNo.all.filter s.usable).length

/-! ### Store reads -/

/-- A string profile record (R100). -/
def Store.profile (t : Store) (k : Bank) (n : StringNo) : Profile := (t.banks.bank k).get n

/-- The store with one string profile record replaced (R100). -/
def Store.setProfile (t : Store) (k : Bank) (n : StringNo) (r : Profile) : Store :=
  { t with banks := t.banks.setBank k ((t.banks.bank k).set n r) }

end Sys2Proof.Machine
end

