-- ==== Sys2Proof/Machine/Learn.lean ====
section
/-!
DEFINITION. What the other blocks do to the Learn Engine (Chapter 7): endings, onsets, the end of a
capture, and the notices of commits and of the link.
-/

namespace Sys2Proof.Machine

/-- The target of a learn in flight (R120). -/
def LearnState.target : LearnState → Option Target
  | .idle => none
  | .armed t _ => some t
  | .capture t _ _ _ => some t

/-- The target while an event from outside can end the learn: in ARMED, and in CAPTURE before the
commit is handed (R124, section 7.6). -/
def LearnState.open? : LearnState → Option Target
  | .idle => none
  | .armed t _ => some t
  | .capture t _ _ none => some t
  | .capture _ _ _ (some _) => none

/-- The target string and its two neighbours, where they exist (R126, R128). -/
def Target.three (t : Target) : List StringNo :=
  t.string :: (t.string.thinner?.toList ++ t.string.thicker?.toList)

/-- Recording an ending: the last result is replaced, the engine enters IDLE, and LEARN_DONE is raised
at the starting port (R130). The ending stamp is that of the most recent conversion set. -/
def State.endLearn (s : State) (t : Target) (r : LastResult) : State :=
  { s with learn := { state := .idle, last := { r with target := some (t, s.siu.stamp) } } }.raise
    t.port .learnDone

/-- A FAILED result with its reason and no measured fields (R120). -/
def LastResult.failed (r : LearnReason) : LastResult :=
  { LastResult.empty with code := .failed, reason := some r }

/-- An event of section 7.6 ends the learn with this reason; it is ignored when no learn is in flight
or the commit has been handed. -/
def State.failLearn (s : State) (r : LearnReason) : State :=
  match s.learn.state.open? with
  | none => s
  | some t => s.endLearn t (LastResult.failed r)

/-- An onset of a string is reported: the target's moves ARMED to CAPTURE (R122); one of a string
outside the three ends the learn FAILED DISTURBED (R126). -/
def State.learnOnset (s : State) (n : StringNo) : State :=
  match s.learn.state.open? with
  | none => s
  | some t =>
    if n ∈ t.three then
      match s.learn.state with
      | .armed _ _ =>
        if n = t.string then
          { s with learn := { s.learn with state := .capture t 0 ⟨0, 0, 0⟩ none } }
        else s
      | _ => s
    else s.failLearn .disturbed

/-- The link leaves ACTIVE (R127). -/
def State.learnLinkLost (s : State) : State := s.failLearn .link

/-- A channel drop took a string's usability: the target's ends the learn FAILED LINK (R127). -/
def State.learnDropped (s : State) (n : StringNo) : State :=
  match s.learn.state.open? with
  | none => s
  | some t => if n = t.string then s.failLearn .link else s

/-- A commit to a string profile record was accepted: one to the target record ends the learn FAILED
STALE at once (R128). -/
def State.learnProfileCommit (s : State) (k : Bank) (n : StringNo) : State :=
  match s.learn.state.open? with
  | none => s
  | some t => if k = t.bank ∧ n = t.string then s.failLearn .stale else s

/-- A global commit touches a string: its map entry changed, or the gain code of the input the entry
names (R128). -/
def stringTouched (old new : Global) (n : StringNo) : Bool :=
  old.map.get n != new.map.get n ||
    match new.map.get n with
    | none => false
    | some i => old.gains.get i != new.gains.get i

/-- A global commit was accepted: a map or gain change of the three strings ends the learn FAILED REMAP
(R128). -/
def State.learnGlobalCommit (s : State) (old new : Global) : State :=
  match s.learn.state.open? with
  | none => s
  | some t => if t.three.any (stringTouched old new) then s.failLearn .remap else s

/-! ### Capture (R123, R124, R125) -/

/-- One set of taps: a tap that carries none leaves its peak as it was (R123). -/
def raisePeak (peak : Nat) (tap : Option Int) : Nat :=
  match tap with
  | none => peak
  | some d => max peak d.natAbs

/-- A conversion set of a capture: the three peaks and the capture count (R123). -/
def State.learnTaps (s : State) (own thinner thicker : Option Int) : State :=
  match s.learn.state with
  | .capture t count k none =>
    let k' : Peaks :=
      ⟨raisePeak k.own own, raisePeak k.thinner thinner, raisePeak k.thicker thicker⟩
    { s with learn := { s.learn with state := .capture t (count + 1) k' none } }
  | _ => s

/-- A bleed coefficient: floor(32768 p / p_s), clamped to 0..8192 (R125). -/
def bleedOf (p own : Nat) : Nat := min 8192 (32768 * p / own)

/-- The sensitivity: ceil(100 * 16384 / p_s), clamped to 1..255 (R125). -/
def sensOf (own : Nat) : Nat := clampNat 1 255 ((100 * 16384 + own - 1) / own)

/-- The learn's results; the coefficient toward a neighbour that does not exist is the stored one (R125). -/
def measuredOf (n : StringNo) (k : Peaks) (stored : Profile) : Measured :=
  { bleedThinner := if n.thinner?.isSome then bleedOf k.thinner k.own else stored.bleedThinner,
    bleedThicker := if n.thicker?.isSome then bleedOf k.thicker k.own else stored.bleedThicker,
    sens := sensOf k.own }

/-- The capture count has reached 4096 and the end has not been taken (R124). -/
def State.captureDue (s : State) : Bool :=
  match s.learn.state with
  | .capture _ count _ none => decide (Config.captureLength ≤ count)
  | _ => false

/-- The capture end: FAILED WEAK when p_s is below 2048, else the results are formed and the commit
is handed to the Profile Store (R124). -/
def State.captureEnd (s : State) : State :=
  match s.learn.state with
  | .capture t count k none =>
    if Config.captureLength ≤ count then
      if k.own < Config.weakLimit then
        s.endLearn t { LastResult.failed .weak with peaks := some k }
      else
        let m := measuredOf t.string k (s.store.profile t.bank t.string)
        { s with learn := { s.learn with state := .capture t count k (some m) } }
    else s
  | _ => s

end Sys2Proof.Machine
end

