-- ==== Sys2Proof/Machine/Measure.lean ====
section
/-!
DEFINITION. The measuring half of a tracker (Chapter 4): envelope, marks, intervals, the interval
history, voting and pitch, in the stages of R50.
-/

namespace Sys2Proof.Machine

/-! ### Envelope (R51) -/

/-- The envelope after a sample: up to |y|, capped at 32767, or down by E / 2^k (R51). -/
def envelope (decay e : Nat) (y : Int) : Nat :=
  if e < y.natAbs then min 32767 y.natAbs else e - e / 2 ^ decay

/-! ### Marks (R54, R55, R56) -/

/-- The arm level L = floor(E * 6 / 16) (R54). -/
def armLevel (e : Nat) : Nat := e * 6 / 16

/-- The fraction f of a mark, 0..15; the quotient 16, which y[n] = 0 gives, is taken as 15 (R56). -/
def markFraction (prevY y : Int) : Nat := min 15 ((16 * (-prevY)).toNat / (y - prevY).toNat)

/-- The time of a mark found at the sample with this stamp: 16 t + f, with t the stamp before (R56). -/
def markTime (stamp : Stamp) (prevY y : Int) : MarkTime :=
  BitVec.ofNat 28 (16 * (stamp - 1).toNat + markFraction prevY y)

/-- The mark test of stage 3 (R55). -/
def markFound (armed : Bool) (prevY y : Int) : Bool := armed && decide (prevY < 0) && decide (0 ≤ y)

/-! ### Intervals and the history (R58, R59, R61) -/

/-- An interval enters the history as its newest and pushes out the oldest of three (R59). -/
def enterInterval (h : List Nat) (i : Nat) : List Nat :=
  if h.length < 3 then h ++ [i] else h.tail ++ [i]

/-- To clear the interval history: it is emptied, the last mark is absent, the stall count 0 (R61). -/
def Tracker.clearedHistory (t : Tracker) : Tracker :=
  { t with history := [], lastMark := none, stall := 0 }

/-- The clearings that act from this sample are made before its stages (R52, R54, R57, R61, R77). -/
def Tracker.applyClears (t : Tracker) : Tracker :=
  let t := if t.clearE then { t with e := 0 } else t
  let t := if t.clearHistory then t.clearedHistory else t
  let t := if t.clearDetector then { t with armed := false, curPeak := 0, prevPeak := 0 } else t
  { t with clearE := false, clearHistory := false, clearDetector := false }

/-- What stages 3 and 4 found: no mark kept, or a kept mark with the period peak just ended and the
previous peak as it stood before it, and whether an interval entered the history (R57, R58). -/
structure MarkResult where
  kept : Option (Nat × Nat)
  entered : Bool
deriving DecidableEq, Repr

/-- A kept mark becomes the last mark, resets the stall count and rolls the period peaks (R57, R58, R60). -/
def Tracker.keepMark (t : Tracker) (m : MarkTime) : Tracker :=
  { t with lastMark := some m, stall := 0, prevPeak := t.curPeak, curPeak := 0 }

/-- Stages 3 and 4: the mark test, and the mark handled against the last one (R55, R58). -/
def Tracker.stageMark (t : Tracker) (stamp : Stamp) (y : Int) : Tracker × MarkResult :=
  if markFound t.armed t.prevY y then
    let m := markTime stamp t.prevY y
    let d := { t with armed := false }
    let peaks := some (t.curPeak, t.prevPeak)
    match t.lastMark with
    | none => (d.keepMark m, ⟨peaks, false⟩)
    | some l =>
      let i := (m - l).toNat
      if i < Config.intervalMin then (d, ⟨none, false⟩)
      else if Config.intervalMax < i then (Tracker.keepMark { d with history := [] } m, ⟨peaks, false⟩)
      else (Tracker.keepMark { d with history := enterInterval d.history i } m, ⟨peaks, true⟩)
  else (t, ⟨none, false⟩)

/-- Stage 5: the stall count rises while the last mark is present and no mark was kept (R60). The
clearing at 1250 is the row STALL. -/
def Tracker.stageStall (t : Tracker) (kept : Bool) : Tracker :=
  if t.lastMark.isSome && !kept then { t with stall := t.stall + 1 } else t

/-- Stage 6: the arm test with the envelope of stage 1 (R54). -/
def Tracker.stageArm (t : Tracker) (y : Int) : Tracker :=
  if y ≤ -(armLevel t.e : Int) then { t with armed := true } else t

/-! ### Voting (R62, R63) -/

/-- Two intervals agree: |a - b| ≤ floor(max(a, b) * tol / 256) (R62). -/
def agree (tol a b : Nat) : Bool := decide ((a - b) + (b - a) ≤ max a b * tol / 256)

/-- The outcomes of a vote, with the candidate period of CLEAN and SPLIT (R63). -/
inductive Vote where
  | clean (p : Nat)
  | split (p : Nat)
  | none
deriving DecidableEq, Repr

/-- The vote over a history, oldest first; one interval or none is not voted (R63). -/
def vote (tol : Nat) : List Nat → Option Vote
  | [i2, i3] => some (if agree tol i3 i2 then .clean ((i2 + i3 + 1) / 2) else .none)
  | [i1, i2, i3] =>
    some (if agree tol i3 i2 then .clean ((i2 + i3 + 1) / 2)
      else if agree tol i1 i3 then .split ((i1 + i3 + 1) / 2) else .none)
  | _ => Option.none

/-! ### Pitch (R66, R67) -/

/-- The integer nearest 6900 + 1200 log2(16 Fs / (440 P)), exactly (R66, R67). With R the rational
(16 Fs / (440 P))^2400, the value v has 2 (v - 6900) = log2 R, so the nearest integer, floor(v + 1/2),
is floor((floor(log2 R) + 13801) / 2). R is scaled by 2^16384, which makes it 1 or more for every
period of 128..20000, so its binary logarithm rounded down is that of its integer part. -/
def nearestPitch (fs p : Nat) : Int :=
  (((((16 * fs) ^ 2400 * 2 ^ 16384) / (440 * p) ^ 2400).log2 : Int) - 16384 + 13801) / 2

/-- The pitch of a candidate period: the concert offset is subtracted after rounding (R66, R67). -/
def pitchOf (rate : Rate) (offset : Int) (p : Nat) : Int := nearestPitch rate.hz p - offset

/-- The pitch lies in the window of the working copy (R69). -/
def WorkingCopy.inWindow (c : WorkingCopy) (pitch : Int) : Bool :=
  decide ((c.windowLow : Int) ≤ pitch) && decide (pitch ≤ (c.windowHigh : Int))

/-- A candidate checked against the window: accepted, or REJECT rises (R65, R69). -/
def Tracker.checkPitch (t : Tracker) (pitch : Int) : Tracker × Option Int :=
  if t.copy.inWindow pitch then (t, some pitch) else ({ t with reject := t.reject + 1 }, none)

/-- Votes are made in ONSET, SOUNDING and RELEASING (R64). -/
def TrackState.votes : TrackState → Bool
  | .onset => true
  | .sounding => true
  | .releasing => true
  | .muted => false
  | .silent => false

/-- Stage 7: the vote of a newly entered interval, its counters, the pitch and the window (R63, R64,
R65, R69). -/
def Tracker.stageVote (t : Tracker) (rate : Rate) (offset : Int) (entered : Bool) : Tracker × Option Int :=
  if entered && t.state.votes then
    match vote t.copy.tol t.history with
    | some (.clean p) => t.checkPitch (pitchOf rate offset p)
    | some (.split p) => Tracker.checkPitch { t with noise := t.noise + 1 } (pitchOf rate offset p)
    | some .none => ({ t with reject := t.reject + 1 }, none)
    | none => (t, none)
  else (t, none)

/-! ### The stages in order (R50) -/

/-- What the measuring half hands the state machine (R50, R70). -/
structure Measurement where
  tracker : Tracker
  kept : Option (Nat × Nat)
  accepted : Option Int
deriving DecidableEq, Repr

/-- The seven stages of one sample, in every state but MUTED (R50). -/
def Tracker.measure (t : Tracker) (rate : Rate) (offset : Int) (stamp : Stamp) (y : Int) : Measurement :=
  let t1 := { t with e := envelope t.copy.decay t.e y }
  let t2 := { t1 with curPeak := min 32767 (max t1.curPeak y.natAbs) }
  let r := t2.stageMark stamp y
  let t5 := r.1.stageStall r.2.kept.isSome
  let t6 := t5.stageArm y
  let v := t6.stageVote rate offset r.2.entered
  { tracker := { v.1 with prevY := y }, kept := r.2.kept, accepted := v.2 }

end Sys2Proof.Machine
end

