-- ==== Sys2Proof/Machine/Tracker.lean ====
section
/-!
DEFINITION. The state machine of a tracker (Chapter 5): the working copy and the gates, entry to
ONSET, SILENT and MUTED, the decisions of one sample, and the events its timers reach.
-/

namespace Sys2Proof.Machine

/-! ### The working copy (R75, R76, R101) -/

/-- The voting tolerance a grade supplies (R101). -/
def Grade.tol : Grade → Nat
  | .fast => 12
  | .standard => 8
  | .robust => 5

/-- The onset timeout a grade supplies (R101). -/
def Grade.onsetTimeout : Grade → Nat
  | .fast => 960
  | .standard => 1920
  | .robust => 3840

/-- The articulation jump a grade supplies (R101). -/
def Grade.jump : Grade → Nat
  | .fast => 70
  | .standard => 90
  | .robust => 120

/-- G_on, the larger of 64 and floor(floor used * gate_on / 4) (R76). -/
def gateOnLevel (floorUsed gateOn : Nat) : Nat := max 64 (floorUsed * gateOn / 4)

/-- G_off = floor(G_on * gate_off / 16) (R76). -/
def gateOffLevel (gOn gateOff : Nat) : Nat := gOn * gateOff / 16

/-- The noise floor of the input named by the string's map entry, 0 if the entry is NONE (R75). -/
def State.floorOf (s : State) (n : StringNo) : Nat :=
  match s.store.global.map.get n with
  | none => 0
  | some i => s.link.floors.get i

/-- A field of the override part where the part is present and holds it, else the grade's (R75, R101). -/
def supplied (r : Profile) (f : Override → Option Nat) (grade : Nat) : Nat :=
  (r.override.bind f).getD grade

/-- The working copy formed from a profile record, a grade and a noise floor (R75, R76). -/
def copyOf (r : Profile) (g : Grade) (floorUsed : Nat) : WorkingCopy :=
  { windowLow := r.windowLow, windowHigh := r.windowHigh, gateOn := r.gateOn, gateOff := r.gateOff,
    repick := r.repick, sens := r.sens, decay := r.decay, releaseHold := r.releaseHold,
    tol := supplied r Override.tol g.tol,
    onsetTimeout := supplied r Override.onsetTimeout g.onsetTimeout,
    jump := supplied r Override.jump g.jump, floorUsed := floorUsed,
    gOn := gateOnLevel floorUsed r.gateOn,
    gOff := gateOffLevel (gateOnLevel floorUsed r.gateOn) r.gateOff }

/-- The tracker takes a working copy from the bank in effect (R75). -/
def State.takeCopy (s : State) (n : StringNo) : State :=
  s.updTracker n fun t =>
    { t with copy := copyOf (s.store.profile t.bank n) s.store.global.grade (s.floorOf n) }

/-! ### Publications and banks (R89, R91) -/

/-- A tracker's publication carries its note and level as they stand; without a note there is none (R89). -/
def State.publishTrack (s : State) (n : StringNo) (k : TrackKind) : State :=
  let t := s.trackers.get n
  match t.note with
  | none => s
  | some m => s.publish (.tracker n) (.track n k m (levelOf t.e))

/-- To adopt is to make the bank in effect the requested bank, with NOTICE BANK_ADOPTED; nothing
happens when no bank is pending (R91). -/
def State.adoptBank (s : State) (n : StringNo) : State :=
  let k := s.store.requested.get n
  if (s.trackers.get n).bank = k then s
  else (s.updTracker n fun t => { t with bank := k }).publish (.tracker n)
    (.notice .bankAdopted n.number k.code)

/-! ### Entries to ONSET, SILENT and MUTED (R78, R80, R81, R85) -/

/-- An onset: steps 1 to 6 of R80 with the onset peak given. A note that was held, and the release and
level timers, are gone with it (R85). -/
def State.beginOnset (s : State) (n : StringNo) (peak : Nat) : State :=
  let stamp := s.siu.stamp
  let s1 := s.updTracker n fun t =>
    { t with state := .onset, note := none, releaseTimer := none, levelTimer := none,
             onsetStamp := stamp }
  let s2 := (s1.adoptBank n).takeCopy n
  let s3 := s2.updTracker n fun t =>
    { t with clearHistory := true, onsetPeak := peak, onsetTimer := some 0 }
  s3.learnOnset n

/-- Entry to SILENT (R81). -/
def State.enterSilent (s : State) (n : StringNo) : State :=
  let s1 := s.updTracker n fun t =>
    { t with state := .silent, note := none, onsetTimer := none, releaseTimer := none,
             levelTimer := none }
  let s2 := (s1.adoptBank n).takeCopy n
  s2.updTracker n fun t => { t with clearE := true }

/-- Entry to MUTED as part of a loss of usability, with END of the cause when a note is held (R78). -/
def State.enterMuted (s : State) (n : StringNo) (cause : EndCause) : State :=
  if (s.trackers.get n).state = .muted then s
  else
    (s.publishTrack n (.ended cause)).updTracker n fun t =>
      { t with state := .muted, note := none, onsetTimer := none, releaseTimer := none,
               levelTimer := none, e := 0, clearHistory := true, clearDetector := true }

/-- A tracker told that its string may leave MUTED enters SILENT; in any other state it is unaffected
(R79). -/
def State.leaveMuted (s : State) (n : StringNo) : State :=
  if (s.trackers.get n).state = .muted then s.enterSilent n else s

/-- A ghost: the GHOST counter rises and the tracker enters SILENT (R83). -/
def State.ghost (s : State) (n : StringNo) : State :=
  (s.updTracker n fun t => { t with ghost := t.ghost + 1 }).enterSilent n

/-! ### The decisions of one sample (R80 to R88) -/

/-- A velocity: floor(peak * sens / 16384), clamped to 1..127 (R82, R84). -/
def velocityOf (peak sens : Nat) : Nat := clampNat 1 127 (peak * sens / 16384)

/-- The anchor note: the pitch rounded half up to the hundred, divided by 100 (R82). -/
def anchorOf (pitch : Int) : Nat := ((pitch + 50) / 100).toNat

/-- The re-pick condition on the period peak just ended and the previous peak (R85). -/
def repickCondition (c : WorkingCopy) (ended prev : Nat) : Bool :=
  decide (prev * c.repick / 16 < ended) && decide (c.gOn ≤ ended)

/-- A re-pick: END(REPICK) is published and a new onset begins with the period peak (R85). -/
def State.repick (s : State) (n : StringNo) (ended : Nat) : State :=
  (s.publishTrack n (.ended .repick)).beginOnset n ended

/-- The note starts: pitch, anchor, velocity, articulation number and level timer are set, the tracker
enters SOUNDING and publishes START (R82). -/
def State.startNote (s : State) (n : StringNo) (pitch : Int) : State :=
  (s.updTracker n fun t =>
    { t with state := .sounding,
             note := some ⟨anchorOf pitch, pitch, velocityOf t.onsetPeak t.copy.sens⟩,
             articulation := t.articulation + 1, onsetTimer := none,
             levelTimer := some 0 }).publishTrack n .start

/-- ONSET at a sample: the timer, the onset peak at a kept mark, then a start, or a ghost by the
envelope (R82, R83). The ghost by the timer is the row ONSET_TIMEOUT. -/
def State.sampleOnset (s : State) (n : StringNo) (kept : Option (Nat × Nat)) (accepted : Option Int) :
    State :=
  let s1 := s.updTracker n fun t =>
    { t with onsetTimer := t.onsetTimer.map (· + 1),
             onsetPeak := match kept with
               | none => t.onsetPeak
               | some k => min 32767 (max t.onsetPeak k.1) }
  match accepted with
  | some pitch => s1.startNote n pitch
  | none =>
    let t := s1.trackers.get n
    if t.e < t.copy.gOff then s1.ghost n else s1

/-- An acceptance against the held pitch: an articulation at a change of jump or more, else a glide
(R84). An articulation enters SOUNDING (R87). -/
def State.accept (s : State) (n : StringNo) (pitch : Int) : State :=
  let t := s.trackers.get n
  match t.note with
  | none => s
  | some m =>
    if t.copy.jump ≤ (pitch - m.pitch).natAbs then
      (s.updTracker n fun t =>
        { t with state := .sounding, releaseTimer := none,
                 note := some ⟨anchorOf pitch, pitch, velocityOf t.e t.copy.sens⟩,
                 articulation := t.articulation + 1 }).publishTrack n .artic
    else
      (s.updTracker n fun t => { t with note := some { m with pitch := pitch } }).publishTrack n .pitch

/-- The acceptance of a sample, if it brought one. -/
def State.acceptIf (s : State) (n : StringNo) (accepted : Option Int) : State :=
  match accepted with
  | none => s
  | some pitch => s.accept n pitch

/-- The level timer rises by 1; at 240 the row LEVEL_TIMER is due (R88). -/
def State.advanceLevel (s : State) (n : StringNo) : State :=
  s.updTracker n fun t => { t with levelTimer := t.levelTimer.map (· + 1) }

/-- A kept mark of this sample meets the re-pick condition (R85). -/
def Tracker.repicked (t : Tracker) (kept : Option (Nat × Nat)) : Option Nat :=
  match kept with
  | none => none
  | some k => if repickCondition t.copy k.1 k.2 then some k.1 else none

/-- SOUNDING at a sample: re-pick, acceptance, fall, level, in this order (R84). -/
def State.sampleSounding (s : State) (n : StringNo) (kept : Option (Nat × Nat))
    (accepted : Option Int) : State :=
  match (s.trackers.get n).repicked kept with
  | some ended => s.repick n ended
  | none =>
    let s1 := s.acceptIf n accepted
    let s2 := s1.updTracker n fun t =>
      if t.e < t.copy.gOff then
        { t with state := .releasing, releaseTimer := some t.copy.releaseHold }
      else t
    s2.advanceLevel n

/-- The release timer of a tracker stands at 0, so its note ends at this sample (R87). -/
def Tracker.releaseDue (t : Tracker) : Bool := t.state == .releasing && t.releaseTimer == some 0

/-- RELEASING at a sample: re-pick, acceptance, return, release timer, level, in this order (R87).
The end by the timer is the row RELEASE_TIMER_END; at the sample at which it is reached the level
timer does not rise (R88). -/
def State.sampleReleasing (s : State) (n : StringNo) (kept : Option (Nat × Nat))
    (accepted : Option Int) : State :=
  match (s.trackers.get n).repicked kept with
  | some ended => s.repick n ended
  | none =>
    let s1 := s.acceptIf n accepted
    let s2 := s1.updTracker n fun t =>
      if t.state = .releasing then
        if t.copy.gOn ≤ t.e then { t with state := .sounding, releaseTimer := none }
        else { t with releaseTimer := t.releaseTimer.map (· - 1) }
      else t
    if (s2.trackers.get n).releaseDue then s2 else s2.advanceLevel n

/-- One sample of a tracker: in MUTED only the previous sample is kept; in every other state the
stages run and the state machine decides (R50, R77). -/
def State.trackerSample (s : State) (n : StringNo) (y : Int) : State :=
  let t := (s.trackers.get n).applyClears
  if t.state = .muted then s.updTracker n fun _ => { t with prevY := y }
  else
    let r := t.measure s.siu.rate s.store.global.offset s.siu.stamp y
    let s1 := s.updTracker n fun _ => r.tracker
    match t.state with
    | .muted => s1
    | .silent => if r.tracker.copy.gOn ≤ r.tracker.e then s1.beginOnset n r.tracker.e else s1
    | .onset => s1.sampleOnset n r.kept r.accepted
    | .sounding => s1.sampleSounding n r.kept r.accepted
    | .releasing => s1.sampleReleasing n r.kept r.accepted

/-! ### The events a tracker's counts reach -/

/-- The stall count has reached 1250 (R60). -/
def Tracker.stallDue (t : Tracker) : Bool := decide (Config.stallLength ≤ t.stall)

/-- The onset timer exceeds onset_timeout in ONSET (R83). -/
def Tracker.timeoutDue (t : Tracker) : Bool :=
  t.state == .onset &&
    match t.onsetTimer with
    | none => false
    | some k => decide (t.copy.onsetTimeout < k)

/-- The level timer has reached 240 in SOUNDING or RELEASING (R88). -/
def Tracker.levelDue (t : Tracker) : Bool :=
  (t.state == .sounding || t.state == .releasing) &&
    match t.levelTimer with
    | none => false
    | some k => decide (Config.levelPeriod ≤ k)

/-- A stall clears the interval history at once (R60, R61). -/
def State.takeStall (s : State) (n : StringNo) : State :=
  if (s.trackers.get n).stallDue then s.updTracker n Tracker.clearedHistory else s

/-- A ghost by the onset timer (R83). -/
def State.takeTimeout (s : State) (n : StringNo) : State :=
  if (s.trackers.get n).timeoutDue then s.ghost n else s

/-- The release timer's end: END(RELEASE), then SILENT (R87). -/
def State.takeRelease (s : State) (n : StringNo) : State :=
  if (s.trackers.get n).releaseDue then (s.publishTrack n (.ended .release)).enterSilent n else s

/-- The level timer's end: LEVEL is published and the timer is set to 0 (R88). -/
def State.takeLevel (s : State) (n : StringNo) : State :=
  if (s.trackers.get n).levelDue then
    (s.publishTrack n .level).updTracker n fun t => { t with levelTimer := some 0 }
  else s

/-- Some event of this tracker's sample is still to be taken. -/
def Tracker.due (t : Tracker) : Bool := t.stallDue || t.timeoutDue || t.releaseDue || t.levelDue

/-- What is left of a tracker's sample is taken, so that its decisions for the sample are complete (R77). -/
def State.finishTracker (s : State) (n : StringNo) : State :=
  (((s.takeStall n).takeTimeout n).takeRelease n).takeLevel n

/-- The same for the six trackers. -/
def State.finishTrackers (s : State) : State := s.forStrings fun n t => t.finishTracker n

/-- The SIU tells every tracker to clear its interval history; it acts from the next sample (R9, R11, R61). -/
def State.clearHistories (s : State) : State :=
  s.forStrings fun n t => t.updTracker n fun k => { k with clearHistory := true }

end Sys2Proof.Machine
end

