-- ==== Sys2Proof/Machine/Siu.lean ====
section
/-!
DEFINITION. The Sense Input Unit (Chapter 1): gain and clipping, rail runs and stuck episodes, the
auxiliary inputs, the changes of role, the sample source and the loss of the word clock.
-/

namespace Sys2Proof.Machine

/-! ### Conversion, clipping, rail runs (R3, R4, R5) -/

/-- The input sample x: the raw code times the gain factor 1, 2, 4 or 8, saturated (R3). -/
def inputSample (gain : Nat) (r : Half) : Int := clampInt (-32768) 32767 (r.toInt * 2 ^ gain)

/-- A sample is clipped when x equals -32768 or 32767 (R4). -/
def clipped (x : Int) : Bool := x == -32768 || x == 32767

/-- The rail run after a sample (table of R5). -/
def RailRun.after (u : RailRun) (r : Int) : RailRun :=
  if Config.railCode ≤ r then
    if u.positive && decide (1 ≤ u.length) then ⟨true, min Config.longLength (u.length + 1)⟩ else ⟨true, 1⟩
  else if r ≤ -Config.railCode then
    if !u.positive && decide (1 ≤ u.length) then ⟨false, min Config.longLength (u.length + 1)⟩ else ⟨false, 1⟩
  else ⟨u.positive, 0⟩

/-- One sample of an analog input: clip run and CLIP, rail run, and the end of an episode by a run
set to 0 or restarted (R4, R5). -/
def SenseInput.sample (u : SenseInput) (r : Half) (x : Int) : SenseInput :=
  let rail := u.rail.after r.toInt
  let goesOn := decide (1 < rail.length)
  { u with clipRun := clipped x, clip := if clipped x && !u.clipRun then u.clip + 1 else u.clip,
           rail := rail, episode := u.episode && goesOn,
           longReported := u.longReported && goesOn, raw := r }

/-- The input is in a stuck episode at this sample (R5). -/
def SenseInput.stuckNow (u : SenseInput) : Bool := decide (Config.episodeLength ≤ u.rail.length)

/-- The rail run has reached 480 and the episode has not begun (R5). -/
def SenseInput.beginDue (u : SenseInput) : Bool := u.stuckNow && !u.episode

/-- The rail run has reached 4096 and the episode has made no report (R6). -/
def SenseInput.longDue (u : SenseInput) : Bool :=
  decide (Config.longLength ≤ u.rail.length) && !u.longReported

/-- The part with what the SIU keeps for one input changed. -/
def State.updInput (s : State) (i : Sin) (f : SenseInput → SenseInput) : State :=
  { s with siu := { s.siu with inputs := s.siu.inputs.set i (f (s.siu.inputs.get i)) } }

/-- A stuck episode begins and STUCK rises (R5). -/
def State.takeEpisode (s : State) (i : Sin) : State :=
  if (s.siu.inputs.get i).beginDue then
    s.updInput i fun u => { u with episode := true, stuck := u.stuck + 1 }
  else s

/-! ### Auxiliary inputs (R12, R13, R14) -/

/-- What the SIU keeps for an aux input. -/
def Siu.aux (u : Siu) : AuxNo → AuxUnit
  | .sin6 => u.aux6
  | .sin7 => u.aux7

/-- The part with what the SIU keeps for an aux input changed. -/
def State.updAux (s : State) (x : AuxNo) (f : AuxUnit → AuxUnit) : State :=
  match x with
  | .sin6 => { s with siu := { s.siu with aux6 := f s.siu.aux6 } }
  | .sin7 => { s with siu := { s.siu with aux7 := f s.siu.aux7 } }

/-- One sample of an aux input in its role: the cadence of an analog one (R12), the candidate and
hold count of a digital one (R13). -/
def AuxUnit.sample (u : AuxUnit) (role : Role) (high : Bool) : AuxUnit :=
  match role with
  | .analogAux => { u with cadence := u.cadence + 1 }
  | .digitalAux =>
    if high = u.candidate then { u with hold := min Config.auxLength (u.hold + 1) }
    else { u with candidate := high, hold := 1 }
  | .stringInput => u
  | .unused => u

/-- The cadence of an analog aux input has reached 480 (R12). -/
def State.auxDue (s : State) (x : AuxNo) : Bool :=
  s.store.global.role x.sin == .analogAux && decide (Config.auxLength ≤ (s.siu.aux x).cadence)

/-- The hold count of a digital aux input stands at 480 with a level that is not the published one (R13). -/
def State.digitalDue (s : State) (x : AuxNo) : Bool :=
  s.store.global.role x.sin == .digitalAux && decide (Config.auxLength ≤ (s.siu.aux x).hold) &&
    (s.siu.aux x).published != some (s.siu.aux x).candidate

/-- The value of an analog aux input, floor((r + 32768) / 512), in 0..127 (R12). -/
def auxValue (r : Half) : Nat := ((r.toInt + 32768) / 512).toNat

/-- An evaluation publishes: the last value is absent, or v differs by 2 or more, or v is 0 or 127 and
differs (R12). -/
def auxPublishes (lastValue : Option Nat) (v : Nat) : Bool :=
  match lastValue with
  | none => true
  | some l => decide (2 ≤ (v - l) + (l - v)) || ((v == 0 || v == 127) && v != l)

/-- The evaluation of an analog aux input (R12). -/
def State.takeAux (s : State) (x : AuxNo) : State :=
  if s.auxDue x then
    let v := auxValue (s.siu.inputs.get x.sin).raw
    if auxPublishes (s.siu.aux x).lastValue v then
      (s.updAux x fun u => { u with cadence := 0, lastValue := some v }).publish .siu (.aux x v)
    else s.updAux x fun u => { u with cadence := 0 }
  else s

/-- The publication of a digital aux input's level (R13). -/
def State.takeDigital (s : State) (x : AuxNo) : State :=
  if s.digitalDue x then
    let c := (s.siu.aux x).candidate
    (s.updAux x fun u => { u with published := some c }).publish .siu (.aux x (if c then 1 else 0))
  else s

/-- Both events of an aux input; its role lets at most one of them be due. -/
def State.finishAux (s : State) (x : AuxNo) : State := (s.takeAux x).takeDigital x

/-- What is taken before an event of an aux input: when SIN6 and SIN7 both publish at one sample,
SIN6's publication is made first (R14). -/
def State.auxBefore (s : State) (x : AuxNo) : State :=
  match x with
  | .sin6 => s
  | .sin7 => s.finishAux .sin6

/-! ### Changes of role (R2) -/

/-- The SIU's state of an input after a commit: one that becomes digital, or becomes analog, has no
clip run, no rail run and no episode; the counters are kept (R2). -/
def SenseInput.roleChange (u : SenseInput) (wasAnalog isAnalog : Bool) : SenseInput :=
  if wasAnalog = isAnalog then u
  else { u with clipRun := false, rail := ⟨u.rail.positive, 0⟩, episode := false, longReported := false }

/-- The SIU after a global commit: the roles are evaluated again, and an aux input whose role changed
begins its new role afresh (R2). -/
def State.siuRoles (s : State) (old new : Global) : State :=
  let inputs := Eight.of fun i =>
    (s.siu.inputs.get i).roleChange (old.analog i) (new.analog i)
  let aux := fun x : AuxNo =>
    if old.role x.sin = new.role x.sin then s.siu.aux x else AuxUnit.fresh
  { s with siu := { s.siu with inputs := inputs, aux6 := aux .sin6, aux7 := aux .sin7 } }

/-! ### The sample clock (R9, R10, R11) -/

/-- A tick or an edge brings a conversion set only from the source in force (R9, R10, R11). -/
def ClockChoice.takes : ClockChoice → SampleSource → Bool
  | .internal, .internalTick => true
  | .internal, .wclkEdge => false
  | .word48, .internalTick => false
  | .word48, .wclkEdge => true
  | .word44, .internalTick => false
  | .word44, .wclkEdge => true

/-- The active rate a choice brings (R9). -/
def ClockChoice.rate : ClockChoice → Rate
  | .internal => .hz48000
  | .word48 => .hz48000
  | .word44 => .hz44100

/-- A taken SET_CLOCK: the choice and the lock; a word clock changes the source, clears every history
and starts the watch (R9). -/
def State.chooseClock (s : State) (c : ClockChoice) : State :=
  match c with
  | .internal => { s with siu := { s.siu with choice := .internal, lock := true } }
  | _ =>
    State.clearHistories
      { s with siu := { s.siu with
          choice := c, lock := true, rate := c.rate, watch := true, fed := true } }

/-- The word clock is lost: the SIU falls back for good (R11). -/
def State.loseWordClock (s : State) : State :=
  let lost := s.siu.choice
  let s1 := { s with siu := { s.siu with choice := .internal, rate := .hz48000, fallback := true,
                                         lock := true, watch := false, fed := false } }
  (s1.clearHistories.publish .siu (.notice .clockLoss lost.code 0)).raiseBoth .fault

end Sys2Proof.Machine
end

