-- ==== Sys2Proof/Machine/Conditioner.lean ====
section
/-!
DEFINITION. The Conditioner (Chapter 3): DC removal, the string map, bleed cancellation, the learn
taps, and what commits and drops do to the accumulators.
-/

namespace Sys2Proof.Machine

/-- An accumulator after one sample x with the DC-removed sample d it gives: d = x - floor(M / 1024),
then M rises by d; a load sets M to 1024 x first, so d is 0; a digital input has neither (R36, R37). -/
def Accumulator.sample (a : Accumulator) (x : Int) : Accumulator × Option Int :=
  match a with
  | .absent => (.absent, none)
  | .held m => (.held (m + (x - m / 1024)), some (x - m / 1024))
  | .toLoad => (.held (1024 * x), some 0)

/-- d of a string's own input when the string is a conditioned string: the test of R38, R39 and R47. -/
def stringD (g : Global) (dropped : Eight Bool) (d : Eight (Option Int)) (n : StringNo) : Option Int :=
  if conditioned g dropped n then (g.map.get n).bind d.get else none

/-- d of a neighbour, none where it does not exist, is mapped to NONE or is dropped (R39, R47). -/
def neighbourD (g : Global) (dropped : Eight Bool) (d : Eight (Option Int)) (n : Option StringNo) :
    Option Int :=
  n.bind (stringD g dropped d)

/-- The profile record of a string in the bank in effect of its tracker, as the store holds it (R39). -/
def State.effective (s : State) (n : StringNo) : Profile :=
  s.store.profile (s.trackers.get n).bank n

/-- b_t, the bleed_thinner of string n+1, 0 where there is none (R39). -/
def State.thickerCoeff (s : State) (n : StringNo) : Nat :=
  match n.thicker? with
  | none => 0
  | some m => (s.effective m).bleedThinner

/-- b_k, the bleed_thicker of string n-1, 0 where there is none (R39). -/
def State.thinnerCoeff (s : State) (n : StringNo) : Nat :=
  match n.thinner? with
  | none => 0
  | some m => (s.effective m).bleedThicker

/-- acc = 32768 d_n - b_t d_(n+1) - b_k d_(n-1), formed exactly (R40). -/
def bleedSum (own thicker thinner : Int) (bt bk : Nat) : Int :=
  32768 * own - bt * thicker - bk * thinner

/-- acc / 32768 rounded half up, before saturation (R40). -/
def roundedSum (acc : Int) : Int := (acc + 16384) / 32768

/-- y is saturated to -32768..32767 (R40). -/
def saturateY (v : Int) : Int := clampInt (-32768) 32767 v

/-- The value of a string before saturation, none when it is not a conditioned string (R38, R40). -/
def State.unsaturated (s : State) (d : Eight (Option Int)) (n : StringNo) : Option Int :=
  let g := s.store.global
  (stringD g s.link.dropped d n).map fun own =>
    roundedSum (bleedSum own ((neighbourD g s.link.dropped d n.thicker?).getD 0)
      ((neighbourD g s.link.dropped d n.thinner?).getD 0) (s.thickerCoeff n) (s.thinnerCoeff n))

/-- The conditioned sample handed to a tracker: 0 for a string that is not conditioned (R38, R40). -/
def conditionedSample (v : Option Int) : Int :=
  match v with
  | none => 0
  | some x => saturateY x

/-- SAT rises by 1 when y of a conditioned string is saturated (R41). -/
def satAfter (sat : Half) (v : Option Int) : Half :=
  match v with
  | none => sat
  | some x => if saturateY x = x then sat else sat + 1

/-! ### Commits and drops (R37, R43 to R46) -/

/-- The accumulator of an input that becomes newly used is loaded from its first sample; a digital
input has none (R37). -/
def Accumulator.newlyUsed (a : Accumulator) : Accumulator :=
  match a with
  | .absent => .absent
  | .held _ => .toLoad
  | .toLoad => .toLoad

/-- An input is newly used by a string whose map entry a commit changed to it (R43). -/
def becomesUsed (old new : Global) (i : Sin) : Bool :=
  StringNo.all.any fun n => new.map.get n == some i && old.map.get n != some i

/-- The accumulator of an input after a global commit: discarded when it becomes digital, to be loaded
when it becomes analog or newly used, cleared when its gain code changed (R37, R43, R44, R45). -/
def Accumulator.afterCommit (a : Accumulator) (old new : Global) (i : Sin) : Accumulator :=
  if !new.analog i then .absent
  else if !old.analog i || becomesUsed old new i then .toLoad
  else if old.gains.get i != new.gains.get i then
    match a with
    | .toLoad => .toLoad
    | _ => .held 0
  else a

/-- The Conditioner after a global commit (R43, R44, R45). -/
def State.conditionerCommit (s : State) (old new : Global) : State :=
  { s with cond := { s.cond with dc := Eight.of fun i => (s.cond.dc.get i).afterCommit old new i } }

end Sys2Proof.Machine
end

