-- ==== Sys2Proof/Machine/Link.lean ====
section
/-!
DEFINITION. The Pickup Link Monitor (Chapter 2): transitions, the settle window, presence, channel
drops, usability and width, and the link commands.
-/

namespace Sys2Proof.Machine

/-! ### Transitions (R17, R29) -/

/-- The supply is on in POWERING, SETTLING and ACTIVE (table of 2.1, R17). -/
def LinkState.supplied : LinkState → Bool
  | .disabled => false
  | .absent => false
  | .powering => true
  | .settling => true
  | .active => true
  | .overload => false

/-- A notice of the link monitor (R29). -/
def State.linkNotice (s : State) (c : NoticeCode) (first second : Nat) : State :=
  s.publish .link (.notice c first second)

/-- Leaving ACTIVE: every tracker is told LINK, EXPECT clears, the width becomes 0, and a learn ends
FAILED LINK (R17, R25, R28, R127). -/
def State.leaveActive (s : State) : State :=
  let s1 := s.forStrings fun n t => t.enterMuted n .link
  let s2 := { s1 with link := { s1.link with expect := false, width := 0 } }
  s2.learnLinkLost

/-- The settle window begins: progress, window maxima and stuck-seen marks are cleared (R21, R23). -/
def Link.beginWindow (k : Link) : Link :=
  { k with progress := 0, windowMax := Eight.of fun _ => 0, stuckSeen := Eight.of fun _ => false }

/-- What entering a state sets besides what leaving one does: the supply (R17), the power-up delay
(R19), the settle window (R20, R21). A delay or window in progress is abandoned (R23, R24, R26, R32). -/
def Link.enter (k : Link) (st : LinkState) : Link :=
  let k1 := { k with state := st, supply := st.supplied, delayMs := none, progress := 0 }
  match st with
  | .powering => { k1 with delayMs := some Config.powerUpMs }
  | .settling => k1.beginWindow
  | _ => k1

/-- A transition of the table of 2.1: the LINK flag is raised at both ports (R17). -/
def State.enterLink (s : State) (st : LinkState) : State :=
  let s1 := if s.link.state = .active then s.leaveActive else s
  State.raiseBoth { s1 with link := s1.link.enter st } .link

/-- A transition that publishes LINK_STATE with the state entered and the state left (R29). -/
def State.enterLinkNoticed (s : State) (st : LinkState) : State :=
  (s.enterLink st).linkNotice .linkState st.code s.link.state.code

/-! ### The settle window (R21, R22, R23) -/

/-- The measurement of one set: the window maximum of |d| capped at 32767, the stuck-seen mark, and
the progress (R21). -/
def State.measureWindow (s : State) (d : Eight (Option Int)) : State :=
  if s.link.state = .settling then
    let k := s.link
    { s with link := { k with
        windowMax := Eight.of fun i =>
          match d.get i with
          | none => k.windowMax.get i
          | some v => min 32767 (max (k.windowMax.get i) v.natAbs),
        stuckSeen := Eight.of fun i =>
          k.stuckSeen.get i || (s.store.global.analog i && (s.siu.inputs.get i).stuckNow),
        progress := k.progress + 1 } }
  else s

/-- The window progress has reached 8192 (R21). -/
def State.windowDue (s : State) : Bool :=
  s.link.state == .settling && decide (Config.windowLength ≤ s.link.progress)

/-- An input's floor at the window end: its window maximum, 0 for a digital input (R22). -/
def State.windowFloor (s : State) (i : Sin) : Nat :=
  if s.store.global.analog i then s.link.windowMax.get i else 0

/-- An input's dropped flag at the window end: a floor above 8192 or a stuck-seen mark; never for a
digital input (R22). -/
def State.windowDrop (s : State) (i : Sin) : Bool :=
  s.store.global.analog i &&
    (decide (Config.floorLimit < s.link.windowMax.get i) || s.link.stuckSeen.get i)

/-- Floors and dropped flags of a window end; an input whose dropped flag is cleared while a string is
mapped to it becomes newly used (R22, R46). -/
def State.setFloors (s : State) : State :=
  let floors := Eight.of s.windowFloor
  let dropped := Eight.of s.windowDrop
  let dc := Eight.of fun i =>
    if s.link.dropped.get i && !dropped.get i && (s.store.global.stringOf i).isSome then
      (s.cond.dc.get i).newlyUsed
    else s.cond.dc.get i
  { s with link := { s.link with floors := floors, dropped := dropped }, cond := { s.cond with dc := dc } }

/-- Every tracker whose string is usable is told that it may leave MUTED (R22, R28, R79). -/
def State.releaseUsable (s : State) : State :=
  s.forStrings fun n t => if t.usable n then t.leaveMuted n else t

/-- The width becomes the number of usable strings (R28). -/
def State.setWidth (s : State) : State := { s with link := { s.link with width := s.usableCount } }

/-- The set at which the window ended is marked for a stuck-long report that it still brings (R27). -/
def State.markWindowEnd (s : State) : State := { s with link := { s.link with windowEnded := true } }

/-- The window end, at the set at which the progress reaches 8192: floors and drops, ACTIVE, usable
strings, width, LINK_STATE then WIDTH (R22). -/
def State.takeWindowEnd (s : State) : State :=
  if s.windowDue then
    let s1 := (s.setFloors.enterLink .active).releaseUsable.setWidth.markWindowEnd
    (s1.linkNotice .linkState LinkState.active.code LinkState.settling.code).linkNotice .width
      s1.link.width s.link.width
  else s

/-! ### Channel drop (R27) -/

/-- A change of width in ACTIVE is published with the new width and the old (R28). -/
def State.noticeWidth (s : State) (old : Nat) : State :=
  if s.link.width = old then s else s.linkNotice .width s.link.width old

/-- Dropping an input while ACTIVE: CHANNEL_DROP, FAULT, the mapped string muted with MUTE, the width and
the notice of its change (R27, R28). -/
def State.dropChannel (s : State) (i : Sin) : State :=
  let old := s.link.width
  let s1 := { s with link := { s.link with dropped := s.link.dropped.set i true } }
  match s.store.global.stringOf i with
  | none => (s1.linkNotice .channelDrop i.number 0).raiseBoth .fault
  | some n =>
    let s2 := (s1.linkNotice .channelDrop i.number n.number).raiseBoth .fault
    let s3 := (s2.enterMuted n .mute).setWidth
    (s3.noticeWidth old).learnDropped n

/-- The monitor drops the input on a stuck-long report: the link is ACTIVE, and the input is not dropped,
or its drop is that of a window end taken before the report at the same set (R27). -/
def State.dropsChannel (s : State) (i : Sin) : Bool :=
  s.link.state == .active && (!s.link.dropped.get i || s.link.windowEnded)

/-- The SIU makes its stuck-long report, once per episode (R6), and the monitor drops the input or changes
nothing (R27). -/
def State.takeStuckLong (s : State) (i : Sin) : State :=
  if (s.siu.inputs.get i).longDue then
    let s1 := s.updInput i fun u => { u with longReported := true }
    if s1.dropsChannel i then s1.dropChannel i else s1
  else s

/-! ### Presence (R18, R19, R24) -/

/-- The level read on PRES: a level that differs from the candidate becomes it and the hold time
starts again (R18). -/
def Link.readPres (k : Link) (level : Bool) : Link :=
  if level = k.candidate then { k with presPin := level }
  else { k with presPin := level, candidate := level, holdMs := 0 }

/-- The level read has equalled the candidate, which is this level, and differs from the debounced
presence: what is left of the hold time can end in a change to it (R18). -/
def Link.presenceWaits (k : Link) (level : Bool) : Bool :=
  k.candidate == level && k.presPin == level && k.presence != level

/-- The hold time has been kept: the debounced presence becomes the candidate (R18). -/
def State.debounce (s : State) (level : Bool) : State :=
  { s with link := { s.link with presence := level, holdMs := Config.presenceMs } }

/-- Presence becomes true: ABSENT goes to POWERING (R19); in DISABLED only the presence changes (R18). -/
def State.presenceTrue (s : State) : State :=
  let s1 := s.debounce true
  if s.link.state = .absent then s1.enterLink .powering else s1

/-- A surprise loss: SURPRISE_LOSS with the width before it, FAULT, LINK counter (R24). -/
def State.surprise (s : State) (width : Nat) : State :=
  let s1 := (s.linkNotice .surpriseLoss width 0).raiseBoth .fault
  { s1 with link := { s1.link with linkCounter := s1.link.linkCounter + 1 } }

/-- Presence becomes false, by the link state in which it is taken (table of R24). -/
def State.presenceFalse (s : State) : State :=
  let s1 := s.debounce false
  match s.link.state with
  | .disabled => s1
  | .absent => s1
  | .powering => s1.enterLinkNoticed .absent
  | .settling => s1.enterLinkNoticed .absent
  | .overload => s1.enterLinkNoticed .absent
  | .active =>
    if s.link.expect then s1.enterLinkNoticed .absent
    else (s1.enterLinkNoticed .absent).surprise s.link.width

/-- An over-current report: with the supply on the link goes to OVERLOAD, with OVERLOAD then
LINK_STATE, and FAULT; with the supply off it has no effect (R26). -/
def State.overCurrent (s : State) : State :=
  if s.link.state.supplied then
    let s1 := (s.enterLink .overload).linkNotice .overload s.link.state.code 0
    (s1.linkNotice .linkState LinkState.overload.code s.link.state.code).raiseBoth .fault
  else s

/-- The power-up delay ends in POWERING: SETTLING with a new window (R20). -/
def State.powerUpEnd (s : State) : State :=
  if s.link.state = .powering then s.enterLink .settling else s

/-! ### A global commit at the link monitor (R23, R28) -/

/-- The commit changes NA, a gain code or a map entry (R23). -/
def wiringChanged (old new : Global) : Bool :=
  old.na != new.na || old.gains != new.gains || old.map != new.map

/-- Floor and dropped flag of an input whose role changes while ACTIVE: analog from digital has floor 0
and is dropped; digital from analog has floor 0 and is not (R28). -/
def State.roleFloors (s : State) (old new : Global) : State :=
  let floors := Eight.of fun i =>
    if old.analog i = new.analog i then s.link.floors.get i else 0
  let dropped := Eight.of fun i =>
    if old.analog i = new.analog i then s.link.dropped.get i else new.analog i
  { s with link := { s.link with floors := floors, dropped := dropped } }

/-- One tracker at a global commit taken while ACTIVE: not usable, it enters MUTED with REMAP; usable
and MUTED, it may leave; usable with a changed map entry, it ends its note and restarts (R28, R78, R79,
R96). -/
def State.remapTracker (s : State) (old new : Global) (n : StringNo) : State :=
  if s.usable n then
    if (s.trackers.get n).state = .muted then s.enterSilent n
    else if old.map.get n = new.map.get n then s
    else (s.publishTrack n (.ended .remap)).enterSilent n
  else s.enterMuted n .remap

/-- Usability and width after a global commit taken while ACTIVE that changes NA or the map; a change
of width is published (R28). -/
def State.reevaluate (s : State) (old new : Global) : State :=
  let w := s.link.width
  let s1 := (s.roleFloors old new).forStrings fun n t => t.remapTracker old new n
  s1.setWidth.noticeWidth w

/-- A global commit at the link monitor and the trackers: it restarts a running window (R23), and is
re-evaluated in ACTIVE (R28); `s` already holds the new record. -/
def State.linkCommit (s : State) (old new : Global) : State :=
  match s.link.state with
  | .settling => if wiringChanged old new then { s with link := s.link.beginWindow } else s
  | .active => if old.na = new.na ∧ old.map = new.map then s else s.reevaluate old new
  | _ => s

/-! ### Link commands (R25, R30, R31, R32) -/

/-- A STATE response with the state concerned (R179). -/
def linkRefusal (s : State) : State × Response :=
  (s, { status := .state, body := byte s.link.state.code })

/-- An OK response with the link state after the command (R181). -/
def linkOk (s : State) : State × Response := (s, ok (byte s.link.state.code))

/-- RETRAIN (R31). -/
def State.doRetrain (s : State) : State × Response :=
  match s.link.state with
  | .active => linkOk (s.enterLink .settling)
  | .settling => linkOk { s with link := s.link.beginWindow }
  | .overload => linkOk (s.enterLink .powering)
  | .disabled => linkRefusal s
  | .absent => linkRefusal s
  | .powering => linkRefusal s

/-- DISABLE (R32). -/
def State.doDisable (s : State) : State × Response :=
  if s.link.state = .disabled then linkRefusal s else linkOk (s.enterLinkNoticed .disabled)

/-- ENABLE (R32). -/
def State.doEnable (s : State) : State × Response :=
  if s.link.state = .disabled then
    if s.link.presence then linkOk (s.enterLink .powering)
    else linkOk (s.enterLinkNoticed .absent)
  else linkRefusal s

/-- EXPECT_REMOVAL (R25). -/
def State.doExpectRemoval (s : State) : State × Response :=
  if s.link.state = .active then linkOk { s with link := { s.link with expect := true } }
  else linkRefusal s

end Sys2Proof.Machine
end

