-- ==== Sys2Proof/Machine/Store.lean ====
section
/-!
DEFINITION. The Profile Store (Chapter 6): reading records, the conditional commit of a string profile
record and of the global record, a learn's commit, and the requested banks.
-/

namespace Sys2Proof.Machine

/-- The faults of an INVALID commit (R104, R105). -/
inductive CommitFault where
  | name
  | code
  | window
  | mapDuplicate
  | mapRange
deriving DecidableEq, Repr

/-- The fault codes (R179). -/
def CommitFault.number : CommitFault → Nat
  | .name => 1
  | .code => 2
  | .window => 3
  | .mapDuplicate => 4
  | .mapRange => 5

/-- An INVALID refusal with its fault and the present revision (R106, R179). -/
def faultResponse (f : CommitFault) (revision : Half) : Response :=
  { status := .invalid, body := byte f.number ++ be16 revision }

/-- An INVALID refusal with fault NAME, which reports no revision (R104, R106). -/
def nameResponse : Response := { status := .invalid, body := byte CommitFault.name.number }

/-- A STALE refusal with the present revision (R104, R106). -/
def staleResponse (revision : Half) : Response := { status := .stale, body := be16 revision }

/-! ### A submitted string profile record (R101, R104, R191) -/

/-- A two-bit mark: 0 absent, 1 present, 2 or 3 names neither (R191). -/
def markOf? (m : Nat) : Option Bool :=
  match m with
  | 0 => some false
  | 1 => some true
  | _ => none

/-- The four marks of the override marks byte: part, tol, onset_timeout, jump (R191). -/
structure Marks where
  part : Bool
  tol : Bool
  onsetTimeout : Bool
  jump : Bool
deriving DecidableEq, Repr

/-- The marks a byte holds, none when one of them names neither present nor absent (R104 step 3). -/
def marksOf? (b : Byte) : Option Marks :=
  match markOf? (b.toNat % 4), markOf? (b.toNat / 4 % 4), markOf? (b.toNat / 16 % 4),
      markOf? (b.toNat / 64 % 4) with
  | some p, some t, some o, some j => some ⟨p, t, o, j⟩
  | _, _, _, _ => none

/-- A field clamped to its range when it is held, with whether the clamp replaced it (R104 step 4). -/
def heldField (held : Bool) (lo hi n : Nat) : Option Nat := if held then some (clampNat lo hi n) else none

/-- The override part as it is stored: a part that holds none of its fields is absent (R101). -/
def overrideOf (k : Marks) (m : ProfileImage) : Option Override :=
  if k.part && (k.tol || k.onsetTimeout || k.jump) then
    some { tol := heldField k.tol 2 32 m.tol.toNat,
           onsetTimeout := heldField k.onsetTimeout 480 4800 m.onsetTimeout.toNat,
           jump := heldField k.jump 60 300 m.jump.toNat }
  else none

/-- The record a submitted image gives, every numeric field clamped to its range; the submitted
revision is ignored (R100, R101, R104 step 4). -/
def clampedProfile (k : Marks) (m : ProfileImage) (revision : Half) : Profile :=
  { windowLow := clampNat 2800 10400 m.windowLow.toNat,
    windowHigh := clampNat 2800 10400 m.windowHigh.toNat,
    gateOn := clampNat 4 64 m.gateOn.toNat, gateOff := clampNat 2 15 m.gateOff.toNat,
    repick := clampNat 20 64 m.repick.toNat, sens := clampNat 1 255 m.sens.toNat,
    decay := clampNat 4 12 m.decay.toNat, releaseHold := clampNat 240 9600 m.releaseHold.toNat,
    bleedThinner := clampNat 0 8192 m.bleedThinner.toNat,
    bleedThicker := clampNat 0 8192 m.bleedThicker.toNat,
    override := overrideOf k m, revision := revision }

/-- A number lies outside its range, so the clamp step replaces it. -/
def outside (lo hi n : Nat) : Bool := clampNat lo hi n != n

/-- The clamp step replaced a field of the submitted record; fields that are not held are ignored
(R104 step 4, R107, R191). -/
def profileClamped (k : Marks) (m : ProfileImage) : Bool :=
  outside 2800 10400 m.windowLow.toNat || outside 2800 10400 m.windowHigh.toNat ||
  outside 4 64 m.gateOn.toNat || outside 2 15 m.gateOff.toNat || outside 20 64 m.repick.toNat ||
  outside 1 255 m.sens.toNat || outside 4 12 m.decay.toNat ||
  outside 240 9600 m.releaseHold.toNat || outside 0 8192 m.bleedThinner.toNat ||
  outside 0 8192 m.bleedThicker.toNat ||
  (k.part && k.tol && outside 2 32 m.tol.toNat) ||
  (k.part && k.onsetTimeout && outside 480 4800 m.onsetTimeout.toNat) ||
  (k.part && k.jump && outside 60 300 m.jump.toNat)

/-! ### The commit of a string profile record (R104, R107, R109) -/

/-- The present record replaced by an accepted commit (R107). -/
def State.storeProfile (s : State) (k : Bank) (n : StringNo) (r : Profile) : State :=
  { s with store := s.store.setProfile k n r }

/-- EDIT_PROFILE, in the steps of R104; on acceptance PEER_COMMIT is raised at the other port and the
Learn Engine is told (R107). -/
def State.doEditProfile (s : State) (p : Port) (bank string : Byte) (base : Half)
    (m : ProfileImage) : State × Response :=
  match Bank.ofCode? bank.toNat, StringNo.ofNumber? string.toNat with
  | some k, some n =>
    let present := s.store.profile k n
    if base ≠ present.revision then (s, staleResponse present.revision)
    else
      match marksOf? m.marks with
      | none => (s, faultResponse .code present.revision)
      | some marks =>
        let r := clampedProfile marks m (present.revision + 1)
        if r.windowHigh < r.windowLow then (s, faultResponse .window present.revision)
        else
          (((s.storeProfile k n r).raise p.other .peerCommit).learnProfileCommit k n,
            ok (bit (profileClamped marks m) ++ imageBytes r.image))
  | _, _ => (s, nameResponse)

/-- READ_PROFILE (R103): the record with its revision, and the requested bank of the string. -/
def State.doReadProfile (s : State) (bank string : Byte) : State × Response :=
  match Bank.ofCode? bank.toNat, StringNo.ofNumber? string.toNat with
  | some k, some n =>
    (s, ok (imageBytes (s.store.profile k n).image ++ byte (s.store.requested.get n).code))
  | _, _ => (s, refuse .invalid)

/-- The record a learn's commit stores: the present one with the measured fields replaced (R109). -/
def Profile.withMeasured (r : Profile) (m : Measured) : Profile :=
  { r with bleedThinner := m.bleedThinner, bleedThicker := m.bleedThicker, sens := m.sens,
           revision := r.revision + 1 }

/-- The store takes a learn's commit: accepted when the base still matches, with PEER_COMMIT at the
port that did not start the learn and the ending DONE; else the learn ends FAILED STALE with its
peaks and measured values (R109, R124). -/
def State.takeLearnCommit (s : State) : State :=
  match s.learn.state with
  | .capture t _ k (some m) =>
    let present := s.store.profile t.bank t.string
    if t.base = present.revision then
      let r := present.withMeasured m
      ((s.storeProfile t.bank t.string r).raise t.port.other .peerCommit).endLearn t
        { LastResult.empty with code := .done, peaks := some k, measured := some m,
                                revision := some r.revision }
    else
      s.endLearn t { LastResult.failed .stale with peaks := some k, measured := some m }
  | _ => s

/-! ### The commit of the global record (R105, R107, R113 to R115) -/

/-- A map byte: an input 0..7, NONE for 0xFF, and else nothing (R192). -/
def mapEntry? (b : Byte) : Option (Option Sin) :=
  if b = 0xFF then some none else (Sin.ofNumber? b.toNat).map some

/-- The six map entries of an image, none when one of them is a fault CODE (R105). -/
def mapOf? (m : Six Byte) : Option (Six (Option Sin)) :=
  match mapEntry? m.s1, mapEntry? m.s2, mapEntry? m.s3, mapEntry? m.s4, mapEntry? m.s5, mapEntry? m.s6 with
  | some a, some b, some c, some d, some e, some f => some ⟨a, b, c, d, e, f⟩
  | _, _, _, _, _, _ => none

/-- The inputs a map names, in string order. -/
def namedInputs (m : Six (Option Sin)) : List Sin := m.toList.filterMap id

/-- A list names some input twice. -/
def hasDuplicate : List Sin → Bool
  | [] => false
  | i :: l => l.contains i || hasDuplicate l

/-- The structural fault of a global record, with NA as clamped: MAP_DUPLICATE is tested first (R105). -/
def mapFault? (na : Nat) (m : Six (Option Sin)) : Option CommitFault :=
  if hasDuplicate (namedInputs m) then some .mapDuplicate
  else if (namedInputs m).any fun i => decide (na ≤ i.number) then some .mapRange
  else none

/-- The global record a submitted image gives: NA, gain codes and offset clamped (R105, R192). -/
def clampedGlobal (map : Six (Option Sin)) (grade : Grade) (m : GlobalImage) (revision : Half) : Global :=
  { na := clampNat 6 8 m.na.toNat, gains := Eight.of fun i => min 3 (m.gains.get i).toNat, map := map,
    offset := clampInt (-50) 50 m.offset.toInt, grade := grade, revision := revision }

/-- The clamp step replaced a field of the submitted global record (R105, R107). -/
def globalClamped (m : GlobalImage) : Bool :=
  outside 6 8 m.na.toNat || (Sin.all.any fun i => decide (3 < (m.gains.get i).toNat)) ||
    clampInt (-50) 50 m.offset.toInt != m.offset.toInt

/-- An accepted global record reaches every block that reads it: the SIU's roles, the accumulators,
the link monitor with the trackers, and the Learn Engine (R107, R113, R114, R115). -/
def State.commitGlobal (s : State) (new : Global) : State :=
  let old := s.store.global
  let s1 := { s with store := { s.store with global := new } }
  (((s1.siuRoles old new).conditionerCommit old new).linkCommit old new).learnGlobalCommit old new

/-- EDIT_GLOBAL, in the steps of R104 as R105 changes them. -/
def State.doEditGlobal (s : State) (p : Port) (base : Half) (m : GlobalImage) : State × Response :=
  let present := s.store.global
  if base ≠ present.revision then (s, staleResponse present.revision)
  else
    match mapOf? m.map, Grade.ofCode? m.grade.toNat with
    | some map, some grade =>
      let new := clampedGlobal map grade m (present.revision + 1)
      match mapFault? new.na map with
      | some f => (s, faultResponse f present.revision)
      | none =>
        ((s.commitGlobal new).raise p.other .peerCommit,
          ok (bit (globalClamped m) ++ globalBytes new.image))
    | _, _ => (s, faultResponse .code present.revision)

/-- READ_GLOBAL (R103): the record with its revision, and the requested banks. -/
def State.doReadGlobal (s : State) : State × Response :=
  (s, ok (globalBytes s.store.global.image ++ requestedBytes s.store.requested))

/-! ### Requested banks (R91, R116) -/

/-- A tracker takes a change of its requested bank: SILENT adopts at once with a working copy, MUTED
adopts without one, and elsewhere the bank is left pending (R91). -/
def State.takeRequest (s : State) (n : StringNo) : State :=
  let t := s.trackers.get n
  if t.bank = s.store.requested.get n then s
  else
    match t.state with
    | .silent => (s.adoptBank n).takeCopy n
    | .muted => s.adoptBank n
    | _ => s

/-- The requested bank of one string is set and its tracker takes the change (R116). -/
def State.requestBank (s : State) (k : Bank) (n : StringNo) : State :=
  State.takeRequest { s with store := { s.store with requested := s.store.requested.set n k } } n

/-- A string is in a mask: bit 0 for string 1 up to bit 5 for string 6 (R181). -/
def inMask (mask : Byte) (n : StringNo) : Bool := mask.getLsbD (n.number - 1)

/-- SELECT_BANK (R116): bits 6 and 7 of the mask name no string. -/
def State.doSelectBank (s : State) (mask bank : Byte) : State × Response :=
  match Bank.ofCode? bank.toNat with
  | none => (s, refuse .invalid)
  | some k =>
    if 64 ≤ mask.toNat then (s, refuse .invalid)
    else
      let s1 := s.forStrings fun n t => if inMask mask n then t.requestBank k n else t
      (s1, ok (requestedBytes s1.store.requested))

end Sys2Proof.Machine
end

