-- ==== Sys2Proof/Machine/Stream.lean ====
section
/-!
DEFINITION. A Stream Unit (Chapters 8 and 9): the port view, note and bend in a port's terms, the
filter table, the latch slot, packets and the ring, cues, the resync sequence, and what a publication
becomes.
-/

namespace Sys2Proof.Machine

/-! ### Note and bend in a port's terms (R140) -/

/-- num / den rounded half away from zero, for den above 0 (R1). -/
def roundHalfAway (num : Int) (den : Nat) : Int :=
  if 0 ≤ num then (2 * num + den) / (2 * den) else -((2 * -num + den) / (2 * den))

/-- The offset b = p - 100 m of a pitch from a note (R140). -/
def bendOffset (pitch : Int) (note : Nat) : Int := pitch - 100 * note

/-- The saturated flag: |b| is greater than L = bend_range * 100 (R140). -/
def bendSaturated (range : Nat) (b : Int) : Bool := decide (range * 100 < b.natAbs)

/-- The bend value of an offset: limited to -L..L, scaled to 8192 and rounded half away from zero,
clamped to -8192..8191 (R140). -/
def bendValue (range : Nat) (b : Int) : Int :=
  clampInt (-8192) 8191
    (roundHalfAway (clampInt (-(range * 100 : Nat)) (range * 100 : Nat) b * 8192) (range * 100))

/-- The note nearest a pitch, floor((pitch + 50) / 100) (R140, R141). -/
def nearestNote (pitch : Int) : Nat := ((pitch + 50) / 100).toNat

/-- The port note of a held note: the anchor in SMOOTH, the nearest note in STEP (R140). -/
def portNote (mode : BendMode) (m : HeldNote) : Nat :=
  match mode with
  | .smooth => m.anchor
  | .step => nearestNote m.pitch

/-- The port terms of a String Context: note, bend and level, or none, 0 and 0 (R140). -/
def portTerms (st : Settings) (t : Tracker) : ViewEntry :=
  match t.note with
  | none => ViewEntry.none
  | some m =>
    { note := some (portNote st.bendMode m),
      bend := bendValue st.bendRange (bendOffset m.pitch (portNote st.bendMode m)),
      level := levelOf t.e }

/-! ### The port view (R134) -/

/-- The view entry of a record's string after the record is stored (R134). -/
def ViewEntry.after (v : ViewEntry) (p : Payload) : ViewEntry :=
  match p with
  | .noteOn note _ _ _ => { v with note := some note, bend := 0 }
  | .noteOff _ _ => ViewEntry.none
  | .bend value _ => { v with bend := value }
  | .level lv => { v with level := lv }
  | .snapshot note value lv => { note := note, bend := value, level := lv }
  | .gap _ => v
  | .cue _ _ => v
  | .aux _ _ => v
  | .notice _ _ _ => v

/-- The view after a record is stored: a record of one string changes no other entry (R134). -/
def viewAfter (view : Six ViewEntry) (r : Record) : Six ViewEntry :=
  match r.string with
  | none => view
  | some n => view.set n ((view.get n).after r.payload)

/-! ### The ring (R156, R157, R158) -/

/-- The ring has a FREE packet (R156). -/
def Stream.hasFree (t : Stream) : Bool := decide (0 < t.freeCount)

/-- Room for a cue: an OPEN packet with fewer records than its limit, or a FREE packet (R152). -/
def Stream.hasRoom (t : Stream) : Bool :=
  match t.opened with
  | none => t.hasFree
  | some k => decide (k.records.length < k.limit) || t.hasFree

/-- The packet at the open position is opened, empty, under the limit and timeout in force, and the
open position moves on in ring order (R156, R158, R159). -/
def Stream.openNext (t : Stream) : Stream :=
  { t with opened := some ⟨[], t.settings.packetLimit, t.settings.idleTimeout⟩,
           openPos := (t.openPos + 1) % t.settings.ringLength }

/-- A record is put into the OPEN packet behind those there, the idle timer restarts, and the view
changes (R134, R158, R159). -/
def Stream.append (t : Stream) (r : Record) : Stream :=
  match t.opened with
  | none => t
  | some k =>
    { t with opened := some ⟨k.records ++ [r], k.limit, t.settings.idleTimeout⟩,
             view := viewAfter t.view r }

/-- The packet a close makes of the OPEN packet (R157). -/
def OpenPacket.close (k : OpenPacket) (seq : Byte) (cause : CloseCause) : ClosedPacket :=
  { seq := seq, count := k.records.length, cause := cause, limit := k.limit,
    firstStamp := (k.records.head?.map Record.stamp).getD 0, records := k.records }

/-- Closing the OPEN packet: its header is written, the next sequence number rises by 1 modulo 256,
and PKT is raised at the port; with no packet OPEN nothing is closed (R157). -/
def State.closeOpen (s : State) (p : Port) (cause : CloseCause) : State :=
  let t := s.streams.get p
  match t.opened with
  | none => s
  | some k =>
    (s.updStream p fun t =>
      { t with closed := t.closed ++ [k.close t.nextSeq cause], opened := none,
               nextSeq := t.nextSeq + 1 }).raise p .pkt

/-- The OPEN packet holds as many records as its limit (R158). -/
def Stream.isFull (t : Stream) : Bool :=
  match t.opened with
  | none => false
  | some k => decide (k.limit ≤ k.records.length)

/-- A full OPEN packet is closed with cause FULL (R158). -/
def State.closeIfFull (s : State) (p : Port) : State :=
  if (s.streams.get p).isFull then s.closeOpen p .full else s

/-- A publication is counted as missed: the gap count, the LOST counter and the LOST flag (R163, R164). -/
def State.countLost (s : State) (p : Port) (gap : Nat) : State :=
  (s.updStream p fun t => { t with gap := gap, lost := countUp t.lost }).raise p .lost

/-- A record finds no room: the stream enters OVERFLOW with a gap count of 1 (R163). -/
def State.overflowLost (s : State) (p : Port) : State :=
  (s.updStream p fun t => { t with state := .overflow }).countLost p 1

/-- A record is stored, with whether it found room (R158). -/
def State.storeRecord (s : State) (p : Port) (r : Record) : State × Bool :=
  let t := s.streams.get p
  if t.opened.isNone && !t.hasFree then (s.overflowLost p, false)
  else
    let s1 := if t.opened.isNone then s.updStream p Stream.openNext else s
    ((s1.updStream p fun t => t.append r).closeIfFull p, true)

/-! ### The filter table and the latch slot (R150, R151) -/

/-- An entry matches a record: its kind is in the kind set, and the record has no string or its string
is in the mask (R150). -/
def FilterEntry.matchesRecord (e : FilterEntry) (r : Record) : Bool :=
  (match r.payload.filterBit? with
    | none => false
    | some k => e.kinds.getLsbD k) &&
  (match r.string with
    | none => true
    | some n => e.strings.getLsbD (n.number - 1))

/-- The first entry that matches decides; a record that none matches is stored as for PASS (R150). -/
def decideRecord (table : List FilterEntry) (r : Record) : FilterAction :=
  match table.find? fun e => e.matchesRecord r with
  | none => .pass
  | some e => e.action

/-- A record is placed in the latch slot with LATCH; an overwritten record raises LATCH_OVR and the
overrun counter (R151). -/
def State.latchRecord (s : State) (p : Port) (r : Record) : State :=
  let full := (s.streams.get p).latch.isSome
  let s1 := (s.updStream p fun t =>
    { t with latch := some r, overruns := if full then countUp t.overruns else t.overruns }).raise p .latch
  if full then s1.raise p .latchOvr else s1

/-- A record is put through the filter table and handled by the action, with whether it was stored
(R150). A FLUSH record closes its packet, unless storing it already did (R160). -/
def State.passFilter (s : State) (p : Port) (r : Record) : State × Bool :=
  match decideRecord (s.streams.get p).filter r with
  | .pass => s.storeRecord p r
  | .flush =>
    let q := s.storeRecord p r
    if q.2 then (q.1.closeOpen p .flush, true) else q
  | .latch => (s.latchRecord p r, false)
  | .drop => (s, false)

/-! ### Cues (R153) -/

/-- A waiting cue is formed when the stream is RUNNING and has room: the slot is emptied, the CUE
record passes through the table, and CUE_PLACED is raised at the source port when it is stored (R153). -/
def State.formCue (s : State) (p : Port) : State :=
  let t := s.streams.get p
  match t.cue with
  | none => s
  | some c =>
    if t.state == .running && t.hasRoom then
      let s1 := s.updStream p fun t => { t with cue := none }
      let q := s1.passFilter p ⟨none, s.siu.stamp, .cue c.source c.code⟩
      if q.2 then q.1.raise c.source .cuePlaced else q.1
    else s

/-! ### The resync sequence (R165, R166) -/

/-- The SNAPSHOT of a string, from its context as it stands (R140, R165). -/
def State.snapshot (s : State) (p : Port) (n : StringNo) : Record :=
  let v := portTerms (s.streams.get p).settings (s.trackers.get n)
  ⟨some n, s.siu.stamp, .snapshot v.note v.bend v.level⟩

/-- The seven records of a resync sequence: GAP, then SNAPSHOT of strings 1 to 6 (R165). -/
def State.resyncRecords (s : State) (p : Port) (lost : Nat) : List Record :=
  ⟨none, s.siu.stamp, .gap lost⟩ :: StringNo.all.map (s.snapshot p)

/-- The OPEN packet has room for the seven records (R166). -/
def Stream.roomForResync (t : Stream) : Bool :=
  match t.opened with
  | none => false
  | some k => decide (k.records.length + Config.resyncLength ≤ k.limit)

/-- The sequence is written into the OPEN packet, which is closed with cause RESYNC; the stream is
RUNNING and a waiting cue follows when there is room (R165, R166, R153). -/
def State.putResync (s : State) (p : Port) (lost : Nat) : State :=
  let records := s.resyncRecords p lost
  let s1 := s.updStream p fun t => { records.foldl Stream.append t with state := .running, gap := 0 }
  (s1.closeOpen p .resync).formCue p

/-- A resync sequence on any of its paths: into an OPEN packet with room for it, else that packet is
closed FULL and the next FREE packet opened; with none FREE the stream enters OVERFLOW with a gap
count of 0 and nothing of it is written (R163, R166). -/
def State.resync (s : State) (p : Port) (lost : Nat) : State :=
  if (s.streams.get p).roomForResync then s.putResync p lost
  else
    let s1 := s.closeOpen p .full
    if (s1.streams.get p).hasFree then (s1.updStream p Stream.openNext).putResync p lost
    else s1.updStream p fun t => { t with state := .overflow, gap := 0 }

/-! ### Records from publications (R132, R141 to R148) -/

/-- A record of a publication: while the stream is RUNNING it is put through the table, and a waiting
cue follows a stored one (R132, R153). Where a record was lost the stream is no longer RUNNING, and
the remaining records are not formed (R132). -/
def State.emit (s : State) (p : Port) (r : Stream → Option Record) : State :=
  let t := s.streams.get p
  if t.state = .running then
    match r t with
    | none => s
    | some r =>
      let q := s.passFilter p r
      if q.2 then q.1.formCue p else q.1
  else s

/-- The bend test against the view's note (R142). -/
def bendRecord (n : StringNo) (stamp : Stamp) (pitch : Int) (t : Stream) : Option Record :=
  let v := t.view.get n
  match v.note with
  | none => none
  | some m =>
    let b := bendOffset pitch m
    let value := bendValue t.settings.bendRange b
    if t.settings.bendStep ≤ (value - v.bend).natAbs ∨
        ((value = -8192 ∨ value = 0 ∨ value = 8191) ∧ value ≠ v.bend) then
      some ⟨some n, stamp, .bend value (bendSaturated t.settings.bendRange b)⟩
    else none

/-- A NOTE_ON carries as replaced note the note of the view entry as it is when formed (R135). -/
def onRecord (n : StringNo) (stamp : Stamp) (note velocity : Nat) (kind : OnKind) (t : Stream) :
    Option Record :=
  some ⟨some n, stamp, .noteOn note velocity kind (t.view.get n).note⟩

/-- A NOTE_OFF is formed only for a string whose entry holds a note, and names it (R135). -/
def offRecord (n : StringNo) (stamp : Stamp) (cause : OffCause) (t : Stream) : Option Record :=
  (t.view.get n).note.map fun m => ⟨some n, stamp, .noteOff m cause⟩

/-- The level test (R146). -/
def levelRecord (n : StringNo) (stamp : Stamp) (lv : Nat) (t : Stream) : Option Record :=
  let v := t.view.get n
  if v.note.isSome ∧ (t.settings.levelStep ≤ (lv - v.level) + (v.level - lv) ∨ (lv = 0 ∧ v.level ≠ 0)) then
    some ⟨some n, stamp, .level lv⟩
  else none

/-- A NOTE_ON preceded, under RETRIGGER, by a NOTE_OFF of the view's note with cause LEGATO (R141, R144). -/
def State.emitLegato (s : State) (p : Port) (n : StringNo) (stamp : Stamp) (note velocity : Nat)
    (kind : OnKind) : State :=
  match (s.streams.get p).settings.legatoPolicy with
  | .legato => s.emit p (onRecord n stamp note velocity kind)
  | .retrigger => (s.emit p (offRecord n stamp .legato)).emit p (onRecord n stamp note velocity kind)

/-- The step test: in STEP, |pitch - 100 m| is greater than 50 + step_hyst (R141). -/
def stepTest (st : Settings) (pitch : Int) (note : Option Nat) : Bool :=
  match st.bendMode, note with
  | .step, some m => decide (50 + st.stepHyst < (bendOffset pitch m).natAbs)
  | _, _ => false

/-- The cause of a NOTE_OFF formed from an END (R147). -/
def EndCause.off : EndCause → OffCause
  | .release => .release
  | .repick => .repick
  | .mute => .mute
  | .link => .link
  | .remap => .remap

/-- The records of a tracker's publication, in the order of its kind (R143 to R147). -/
def State.formTrack (s : State) (p : Port) (n : StringNo) (stamp : Stamp) (kind : TrackKind)
    (m : HeldNote) (lv : Nat) : State :=
  match kind with
  | .start =>
    (s.emit p (onRecord n stamp m.anchor m.velocity .pick)).emit p (bendRecord n stamp m.pitch)
  | .artic =>
    (s.emitLegato p n stamp m.anchor m.velocity .legato).emit p (bendRecord n stamp m.pitch)
  | .pitch =>
    let t := s.streams.get p
    let s1 :=
      if stepTest t.settings m.pitch (t.view.get n).note then
        s.emitLegato p n stamp (nearestNote m.pitch) m.velocity .step
      else s
    s1.emit p (bendRecord n stamp m.pitch)
  | .level => s.emit p (levelRecord n stamp lv)
  | .ended cause => s.emit p (offRecord n stamp cause.off)

/-- The records of a publication (R143 to R148). -/
def State.formRecords (s : State) (p : Port) (stamp : Stamp) (pub : Publication) : State :=
  match pub with
  | .track n kind m lv => s.formTrack p n stamp kind m lv
  | .aux x v => s.emit p fun _ => some ⟨none, stamp, .aux x v⟩
  | .notice c a1 a2 => s.emit p fun _ => some ⟨none, stamp, .notice c a1 a2⟩

/-- What a stream makes of a publication it takes, by its state (R132, R164). -/
def State.handlePublication (s : State) (p : Port) (w : Waiting) : State :=
  match (s.streams.get p).state with
  | .running => s.formRecords p w.stamp w.pub
  | .overflow => s.countLost p (countUp (s.streams.get p).gap)
  | .held => s
  | .stopped => s

/-- The first publication of a maker that waits, with the list it leaves. -/
def takeFirst (m : Maker) : List Waiting → Option (Waiting × List Waiting)
  | [] => none
  | w :: l =>
    if w.maker = m then some (w, l)
    else (takeFirst m l).map fun q => (q.1, w :: q.2)

/-- A publication made during the handling of a set (an odd phase) waits for every one made before that
handling began (R132). -/
def mayTake (waiting : List Waiting) (w : Waiting) : Bool :=
  w.phase % 2 == 0 || waiting.all fun v => decide (w.phase ≤ v.phase)

/-- The stream takes the next publication of a maker, if one waits and R132 lets it be taken now. -/
def State.takePublication (s : State) (p : Port) (m : Maker) : State :=
  let l := (s.streams.get p).waiting
  match takeFirst m l with
  | none => s
  | some (w, rest) =>
    if mayTake l w then
      (s.updStream p fun t => { t with waiting := rest }).handlePublication p w
    else s

/-! ### The idle timer (R159) -/

/-- The idle timer of an OPEN packet counts one conversion set (R159). -/
def Stream.countIdle (t : Stream) : Stream :=
  { t with opened := t.opened.map fun k => { k with idleLeft := k.idleLeft - 1 } }

/-- The idle timer has counted out (R159). -/
def Stream.idleDue (t : Stream) : Bool :=
  match t.opened with
  | none => false
  | some k => k.idleLeft == 0

/-- An expired idle timer closes the OPEN packet with cause IDLE (R159). -/
def State.takeIdle (s : State) (p : Port) : State :=
  if (s.streams.get p).idleDue then s.closeOpen p .idle else s

/-! ### Stream commands (R137 to R139, R149 to R152, R161, R162, R168 to R174) -/

/-- A STATE response with the stream state (R179). -/
def streamRefusal (s : State) (p : Port) : State × Response :=
  (s, { status := .state, body := byte (s.streams.get p).state.code })

/-- An OK response with the stream state after the command (R181). -/
def streamOk (s : State) (p : Port) : State × Response :=
  (s, ok (byte (s.streams.get p).state.code))

/-- START (R169). -/
def State.doStart (s : State) (p : Port) : State × Response :=
  if (s.streams.get p).state = .stopped then streamOk (s.resync p 0) p else streamRefusal s p

/-- STOP (R170). -/
def State.doStop (s : State) (p : Port) : State × Response :=
  streamOk ((s.closeOpen p .stop).updStream p fun t => { t with state := .stopped, gap := 0 }) p

/-- HOLD (R171). -/
def State.doHold (s : State) (p : Port) : State × Response :=
  if (s.streams.get p).state = .running then
    streamOk ((s.closeOpen p .hold).updStream p fun t => { t with state := .held }) p
  else streamRefusal s p

/-- RESUME (R171). -/
def State.doResume (s : State) (p : Port) : State × Response :=
  if (s.streams.get p).state = .held then streamOk (s.resync p 0) p else streamRefusal s p

/-- RESYNC (R172). -/
def State.doResync (s : State) (p : Port) : State × Response :=
  match (s.streams.get p).state with
  | .running => streamOk ((s.closeOpen p .resync).resync p 0) p
  | .overflow => streamOk s p
  | .stopped => streamRefusal s p
  | .held => streamRefusal s p

/-- The state STREAM_CONTROL RESET brings a stream to; settings and filter table are kept, and so are
the publications that wait to be taken (R173). -/
def Stream.streamReset (t : Stream) : Stream :=
  { Stream.reset with settings := t.settings, filter := t.filter, waiting := t.waiting }

/-- STREAM_CONTROL RESET, with the four flags it clears (R173). -/
def State.doReset (s : State) (p : Port) : State × Response :=
  streamOk ((s.updStream p Stream.streamReset).updPort p fun q =>
    { q with flags := clearIn q.flags streamFlags }) p

/-- A packet_limit outside 8..32 becomes 16 (R137). -/
def limitOf (n : Nat) : Nat := if n < 8 ∨ 32 < n then 16 else n

/-- The settings a submitted image gives, clamped (R136, R137). -/
def clampedSettings (b : BendMode) (l : LegatoPolicy) (m : SettingsImage) : Settings :=
  { bendMode := b, bendRange := clampNat 1 24 m.bendRange.toNat,
    stepHyst := clampNat 0 40 m.stepHyst.toNat, bendStep := clampNat 1 512 m.bendStep.toNat,
    levelStep := clampNat 1 32 m.levelStep.toNat, legatoPolicy := l,
    idleTimeout := clampNat 48 48000 m.idleTimeout.toNat, packetLimit := limitOf m.packetLimit.toNat,
    ringLength := clampNat 2 16 m.ringLength.toNat }

/-- The clamp step replaced a value of the submitted settings (R137). -/
def settingsClamped (m : SettingsImage) : Bool :=
  outside 1 24 m.bendRange.toNat || outside 0 40 m.stepHyst.toNat || outside 1 512 m.bendStep.toNat ||
  outside 1 32 m.levelStep.toNat || outside 48 48000 m.idleTimeout.toNat ||
  limitOf m.packetLimit.toNat != m.packetLimit.toNat || outside 2 16 m.ringLength.toNat

/-- The settings that make the view's note and bend values those of the old terms (R138). -/
def termsChanged (old new : Settings) : Bool :=
  old.bendMode != new.bendMode || old.bendRange != new.bendRange || old.stepHyst != new.stepHyst

/-- The settings replaced; a change of ring length puts the open position at packet 0 (R137, R156). -/
def Stream.withSettings (t : Stream) (st : Settings) : Stream :=
  { t with settings := st,
           openPos := if t.settings.ringLength = st.ringLength then t.openPos else 0 }

/-- SET_STREAM, in the steps of R137; a change of terms while RUNNING writes a resync sequence (R138). The
body is the one of R137 and R181, which has no stream state in it (R166, log entry 17). -/
def State.doSetStream (s : State) (p : Port) (m : SettingsImage) : State × Response :=
  let t := s.streams.get p
  match BendMode.ofCode? m.bendMode.toNat, LegatoPolicy.ofCode? m.legatoPolicy.toNat with
  | some b, some l =>
    let st := clampedSettings b l m
    if (st.packetLimit ≠ t.settings.packetLimit ∨ st.ringLength ≠ t.settings.ringLength) ∧
        ¬ (t.state = .stopped ∧ t.closed = []) then streamRefusal s p
    else
      let s1 := s.updStream p fun t => t.withSettings st
      let s2 := if t.state = .running ∧ termsChanged t.settings st then s1.resync p 0 else s1
      (s2, ok (bit (settingsClamped m) ++ settingsBytes st.image))
  | _, _ => (s, refuse .invalid)

/-- A submitted filter entry, none when it names a kind, a string or an action that does not exist, or
is LATCH with a kind set that includes NOTE_ON, NOTE_OFF or BEND (R149, R181). -/
def filterEntry? (m : FilterImage) : Option FilterEntry :=
  match FilterAction.ofCode? m.action.toNat with
  | none => none
  | some a =>
    if 128 ≤ m.kinds.toNat ∨ 64 ≤ m.strings.toNat then none
    else if a = .latch ∧ m.kinds.toNat % 8 ≠ 0 then none
    else some { kinds := m.kinds.setWidth 7, strings := m.strings.setWidth 6, action := a }

/-- A submitted filter table, none when one of its entries is refused (R149). -/
def filterTable? : List FilterImage → Option (List FilterEntry)
  | [] => some []
  | m :: l =>
    match filterEntry? m, filterTable? l with
    | some e, some t => some (e :: t)
    | _, _ => none

/-- SET_FILTER (R149). -/
def State.doSetFilter (s : State) (p : Port) (entries : List FilterImage) : State × Response :=
  if Config.filterMax < entries.length then (s, refuse .invalid)
  else
    match filterTable? entries with
    | none => (s, refuse .invalid)
    | some l => (s.updStream p fun t => { t with filter := l }, ok [])

/-- READ_FILTER: the count and the entries in order (R149, R181). -/
def State.doReadFilter (s : State) (p : Port) : State × Response :=
  let l := (s.streams.get p).filter
  (s, ok (byte l.length ++ l.flatMap FilterEntry.bytes))

/-- FETCH: the oldest CLOSED packet, or EMPTY (R161). -/
def State.doFetch (s : State) (p : Port) : State × Response :=
  match (s.streams.get p).closed with
  | [] => (s, refuse .empty)
  | k :: _ => (s, ok k.bytes)

/-- What follows the freeing of a packet, by the stream state (R162, R164). -/
def State.afterFree (s : State) (p : Port) : State :=
  match (s.streams.get p).state with
  | .running => s.formCue p
  | .overflow => s.resync p (s.streams.get p).gap
  | .held => s
  | .stopped => s

/-- RELEASE: the oldest CLOSED packet is freed when it carries the number named (R162). The response
counts the CLOSED packets left by the freeing (log entry 21), and R162 and R181 give it no stream state (R166,
log entry 17). -/
def State.doRelease (s : State) (p : Port) (seq : Byte) : State × Response :=
  match (s.streams.get p).closed with
  | [] => (s, refuse .empty)
  | k :: l =>
    if k.seq = seq then
      ((s.updStream p fun t => { t with closed := l }).afterFree p, ok ([seq] ++ byte l.length))
    else (s, { status := .stale, body := [k.seq] })

/-- READ_LATCH: the record in the slot, which is emptied, or EMPTY (R151). -/
def State.doReadLatch (s : State) (p : Port) : State × Response :=
  match (s.streams.get p).latch with
  | none => (s, refuse .empty)
  | some r => (s.updStream p fun t => { t with latch := none }, ok r.bytes)

/-- The outcome bytes of POST_CUE (R181). -/
inductive CueOutcome where
  | notNamed
  | placed
  | queued
  | state
  | busy
deriving DecidableEq, Repr

/-- The outcome codes (R181). -/
def CueOutcome.code : CueOutcome → Nat
  | .notNamed => 0
  | .placed => 1
  | .queued => 2
  | .state => 3
  | .busy => 4

/-- One destination of POST_CUE: refused STATE when STOPPED, BUSY when the slot is occupied; else the
cue is placed and formed at once where that can be (R152, R153). A STOPPED stream with an occupied slot is
refused STATE, as the first row of R152's table says (DESIGN CHOICE, log entry 28). -/
def State.postTo (s : State) (named : Bool) (dest source : Port) (code : Half) : State × CueOutcome :=
  let t := s.streams.get dest
  if named = false then (s, .notNamed)
  else if t.state = .stopped then (s, .state)
  else if t.cue.isSome then (s, .busy)
  else
    let s1 := (s.updStream dest fun t => { t with cue := some ⟨source, code⟩ }).formCue dest
    (s1, if (s1.streams.get dest).cue.isNone then .placed else .queued)

/-- POST_CUE: first A, then B; a set naming neither, or an unused bit set, is refused INVALID (R152, R178). -/
def State.doPostCue (s : State) (p : Port) (destinations : Byte) (code : Half) : State × Response :=
  if destinations.toNat = 0 ∨ 4 ≤ destinations.toNat then (s, refuse .invalid)
  else
    let ra := s.postTo (destinations.getLsbD 0) .a p code
    let rb := ra.1.postTo (destinations.getLsbD 1) .b p code
    (rb.1, ok (byte ra.2.code ++ byte rb.2.code))

/-- READ_PORT_COUNTERS: LOST and latch-overrun (R174). -/
def State.doReadPortCounters (s : State) (p : Port) : State × Response :=
  let t := s.streams.get p
  (s, ok (num16 t.lost ++ num16 t.overruns))

/-- CLEAR_PORT_COUNTERS: both become 0 (R174). -/
def State.doClearPortCounters (s : State) (p : Port) : State × Response :=
  (s.updStream p fun t => { t with lost := 0, overruns := 0 }, ok [])

end Sys2Proof.Machine
end

