-- ==== Sys2Proof/Machine/Finish.lean ====
section
/-!
DEFINITION. The end of a conversion set's handling. The rows that arise from a set (its stuck
episodes, window end, timers, capture end and aux events) are steps of their own; what the queue has not
taken of them when a later command or event comes is taken before it, in one fixed order (DEDUCED,
log entry 1).
-/

namespace Sys2Proof.Machine

/-- The SIU's events of one input: the beginning of an episode, then the stuck-long report. -/
def State.finishInput (s : State) (i : Sin) : State := (s.takeEpisode i).takeStuckLong i

/-- The same for the eight inputs. -/
def State.finishInputs (s : State) : State := Sin.all.foldl (fun t i => t.finishInput i) s

/-- Every event of the set that has not been taken is taken. -/
def State.finishEvents (s : State) : State :=
  ((((s.finishTrackers).finishInputs).finishAux .sin6).finishAux .sin7).takeWindowEnd.captureEnd

/-- The handling of the set is over: the phase becomes even. -/
def State.endHandling (s : State) : State := { s with phase := s.phase + s.phase % 2 }

/-- What is left of the present set's handling is taken. -/
def State.finishSet (s : State) : State := s.finishEvents.endHandling

/-- No event of an aux input is waiting. -/
def State.auxQuiet (s : State) (x : AuxNo) : Bool := !s.auxDue x && !s.digitalDue x

/-- Nothing is left of the present set's handling. -/
def State.settled (s : State) : Bool :=
  s.phase % 2 == 0 && (StringNo.all.all fun n => !(s.trackers.get n).due) &&
    (Sin.all.all fun i => !(s.siu.inputs.get i).beginDue && !(s.siu.inputs.get i).longDue) &&
    s.auxQuiet .sin6 && s.auxQuiet .sin7 && !s.windowDue && !s.captureDue

end Sys2Proof.Machine
end

