-- ==== Sys2Proof/Machine/SampleRows.lean ====
section
/-!
DEFINITION. The rows of the sample clock: CONVERSION_SET, the events of a set's handling, and the
idle timers of the packet rings.
-/

namespace Sys2Proof.Machine

/-! ### CONVERSION_SET in its stages (R3, R35, R50, R77) -/

/-- A new handling begins: the stamp counter adds 1 modulo 2^24 (R7), an edge of the word clock restarts its
watch (R10), no window has ended at the new set (R27), and the phase becomes odd. -/
def State.beginHandling (s : State) : State :=
  { s with
    siu := { s.siu with stamp := s.siu.stamp + 1, fed := s.siu.choice != .internal },
    link := { s.link with windowEnded := false }, phase := s.phase + 1 }

/-- The input sample of each analog input; a digital input has none (R3). -/
def State.inputSamples (s : State) (pins : SetInputs) : Eight (Option Int) :=
  let g := s.store.global
  Eight.of fun i => if g.analog i then some (inputSample (g.gains.get i) (pins.raw.get i)) else none

/-- The SIU's handling of a sample: clipping and rail runs of the analog inputs, and the aux inputs in
their roles (R4, R5, R12, R13). -/
def State.siuSample (s : State) (pins : SetInputs) : State :=
  let g := s.store.global
  let inputs := Eight.of fun i =>
    let u := s.siu.inputs.get i
    if g.analog i then u.sample (pins.raw.get i) (inputSample (g.gains.get i) (pins.raw.get i)) else u
  { s with siu := { s.siu with
      inputs := inputs,
      aux6 := s.siu.aux6.sample (g.role .sin6) pins.high6,
      aux7 := s.siu.aux7.sample (g.role .sin7) pins.high7 } }

/-- The DC-removed samples of a set (R36, R48). -/
def State.dcSamples (s : State) (x : Eight (Option Int)) : Eight (Option Int) :=
  Eight.of fun i => (x.get i).bind fun v => ((s.cond.dc.get i).sample v).2

/-- The accumulators after a set (R36, R37). -/
def State.dcAfter (s : State) (x : Eight (Option Int)) : Eight Accumulator :=
  Eight.of fun i =>
    match x.get i with
    | none => s.cond.dc.get i
    | some v => ((s.cond.dc.get i).sample v).1

/-- What the Conditioner hands the trackers: the value of each string before saturation, none for a
string that is not conditioned (R35, R38, R40). -/
def State.stringValues (s : State) (d : Eight (Option Int)) : Six (Option Int) :=
  Six.of (s.unsaturated d)

/-- The Conditioner's own state after a set: accumulators and SAT counters (R36, R41). -/
def State.conditionSample (s : State) (x : Eight (Option Int)) (v : Six (Option Int)) : State :=
  { s with cond := { dc := s.dcAfter x, sat := Six.of fun n => satAfter (s.cond.sat.get n) (v.get n) } }

/-- The Conditioner's learn taps of a set reach the engine while it captures (R47, R123). -/
def State.tapSample (s : State) (d : Eight (Option Int)) : State :=
  match s.learn.state.target with
  | none => s
  | some t =>
    let g := s.store.global
    s.learnTaps (stringD g s.link.dropped d t.string) (neighbourD g s.link.dropped d t.string.thinner?)
      (neighbourD g s.link.dropped d t.string.thicker?)

/-- Tracker n takes the link monitor's changes of this set before its sample (R94). -/
def takesFirst (o : SetOrder) (n : StringNo) : Bool := o.monitorFirst.getLsbD (n.number - 1)

/-- The trackers whose turn this is handle their samples (R50, R77). -/
def State.sampleTrackers (s : State) (turn : StringNo → Bool) (v : Six (Option Int)) : State :=
  s.forStrings fun n t => if turn n then t.trackerSample n (conditionedSample (v.get n)) else t

/-- The link monitor's changes of the set, taken after the samples of the trackers that have handled
theirs, in either order of a window end and the stuck-long reports (R22, R27, R94). -/
def State.monitorChanges (s : State) (windowFirst : Bool) : State :=
  if windowFirst then s.finishTrackers.takeWindowEnd.finishInputs
  else s.finishTrackers.finishInputs.takeWindowEnd

/-- The idle timers of both rings count the set (R159). -/
def State.countIdles (s : State) : State :=
  (s.updStream .a Stream.countIdle).updStream .b Stream.countIdle

/-- The whole handling of one conversion set, but for the events that are rows of their own: SIU,
Conditioner, link monitor, Learn Engine taps, trackers, idle timers. -/
def State.handleSet (s : State) (pins : SetInputs) (order : SetOrder) : State :=
  let x := s.inputSamples pins
  let s1 := s.siuSample pins
  let d := s1.dcSamples x
  let v := s1.stringValues d
  let s2 := ((s1.conditionSample x v).measureWindow d).tapSample d
  let s3 := if order.captureFirst then s2.captureEnd else s2
  let s4 := s3.sampleTrackers (fun n => !takesFirst order n) v
  let s5 := if order.monitorFirst = 0 then s4
    else (s4.monitorChanges order.windowFirst).sampleTrackers (takesFirst order) v
  s5.countIdles

/-- One conversion set: what is left of the last one is taken, expired idle timers included, and the
set is handled with the next stamp. -/
def State.conversionSet (s : State) (pins : SetInputs) (order : SetOrder) : State :=
  (((s.finishSet.takeIdle .a).takeIdle .b).beginHandling).handleSet pins order

/-! ### The meanings -/

/-- CONVERSION_SET: a tick or an edge of the source in force brings one conversion set; of the other
source it brings none (R3, R9, R10, R11). -/
def execConversionSet (src : SampleSource) (pins : SetInputs) (order : SetOrder) (s : State) : Result :=
  if s.siu.choice.takes src then .next (s.conversionSet pins order) else .next s

/-- STUCK_EPISODE_BEGIN: the rail run has reached 480 (R5). -/
def execStuckEpisodeBegin (i : Sin) (s : State) : Result := .next (s.takeEpisode i)

/-- STUCK_LONG: the rail run has reached 4096 (R6, R27). The trackers' decisions for their sample are
complete before the change reaches them (R77, R94). -/
def execStuckLong (i : Sin) (s : State) : Result :=
  if (s.siu.inputs.get i).longDue then .next (s.finishTrackers.takeStuckLong i) else .next s

/-- AUX_EVALUATION: the cadence has reached 480 (R12); SIN6's event of the sample comes first (R14). -/
def execAuxEvaluation (x : AuxNo) (s : State) : Result :=
  if s.auxDue x then .next ((s.auxBefore x).takeAux x) else .next s

/-- DIGITAL_AUX_PUBLISH: the hold count has reached 480 with a new level (R13); SIN6's event of the
sample comes first (R14). -/
def execDigitalAuxPublish (x : AuxNo) (s : State) : Result :=
  if s.digitalDue x then .next ((s.auxBefore x).takeDigital x) else .next s

/-- SETTLE_WINDOW_END: the window progress has reached 8192 (R22). -/
def execSettleWindowEnd (s : State) : Result :=
  if s.windowDue then .next s.finishTrackers.takeWindowEnd else .next s

/-- STALL: the stall count has reached 1250 (R60). -/
def execStall (n : StringNo) (s : State) : Result := .next (s.takeStall n)

/-- ONSET_TIMEOUT: the onset timer exceeds onset_timeout (R83). -/
def execOnsetTimeout (n : StringNo) (s : State) : Result := .next (s.takeTimeout n)

/-- RELEASE_TIMER_END: the release timer has reached 0 (R87). -/
def execReleaseTimerEnd (n : StringNo) (s : State) : Result := .next (s.takeRelease n)

/-- LEVEL_TIMER: the level timer has reached 240 (R88). -/
def execLevelTimer (n : StringNo) (s : State) : Result := .next (s.takeLevel n)

/-- CAPTURE_END: the capture count has reached 4096 (R124). -/
def execCaptureEnd (s : State) : Result := .next s.captureEnd

/-- IDLE_TIMER_EXPIRY: the idle timer of the OPEN packet has counted out (R159). -/
def execIdleTimerExpiry (p : Port) (s : State) : Result := .next (s.takeIdle p)

/-- PUBLICATION_TAKEN: the Stream Unit of the port takes the next publication of a maker (R132). -/
def execPublicationTaken (p : Port) (m : Maker) (s : State) : Result := .next (s.takePublication p m)

end Sys2Proof.Machine
end

