-- ==== Sys2Proof/Machine/PinRows.lean ====
section
/-!
DEFINITION. The rows of the pins and of the internal timebase, a learn's commit, the two resets, and
the millisecond that passes when nothing waits.
-/

namespace Sys2Proof.Machine

/-- Power-on: every block in its power-on state (R15, R34, R49, R99, R118, R131, R155, R175, R187).
The levels on the pins are the outside's, and so are the queue and the bytes to be clocked. -/
def State.powerOn (s : State) : State :=
  { State.reset with
    link := Link.resetAt s.link.presPin,
    ports := ⟨PortIf.resetAt s.ports.a.csLow s.ports.a.sdi, PortIf.resetAt s.ports.b.csLow s.ports.b.sdi⟩,
    pending := s.pending }

/-- Part reset: every block in its part-reset state; the clock choice, the lock, the fallback
indication, the active rate and the running watch are kept (R16, R186). -/
def State.partReset (s : State) : State :=
  let t := s.powerOn
  { t with siu := { t.siu with choice := s.siu.choice, lock := s.siu.lock, fallback := s.siu.fallback,
                               rate := s.siu.rate, watch := s.siu.watch, fed := s.siu.fed } }

/-- The word-clock watch runs out: nothing happens while it does not run (R10, R11). -/
def State.watchEnd (s : State) : State := if s.siu.watch then s.loseWordClock else s

/-- The hold time of a candidate that is this level ends (R18). -/
def State.holdEnd (s : State) (level : Bool) : State :=
  if s.link.presenceWaits level then
    if level then s.presenceTrue else s.presenceFalse
  else s

/-- The arm timer ends in ARMED (R122). -/
def State.armEnd (s : State) : State :=
  match s.learn.state with
  | .armed _ _ => s.failLearn .timeout
  | _ => s

/-! ### One millisecond of the internal timebase (log entry 3) -/

/-- The word-clock watch runs out when the millisecond brought it no edge; else it has been restarted, and
the next millisecond begins (R10). -/
def State.tickWatch (s : State) : State :=
  if s.siu.watch && !s.siu.fed then s.loseWordClock else { s with siu := { s.siu with fed := false } }

/-- The power-up delay runs down by a millisecond and ends when none is left (R20). -/
def State.tickDelay (s : State) : State :=
  match s.link.delayMs with
  | none => s
  | some k =>
    if k ≤ 1 then s.powerUpEnd else { s with link := { s.link with delayMs := some (k - 1) } }

/-- The arm timer runs down by a millisecond and expires when none is left (R122). -/
def State.tickArm (s : State) : State :=
  match s.learn.state with
  | .armed t ms =>
    if ms ≤ 1 then s.armEnd else { s with learn := { s.learn with state := .armed t (ms - 1) } }
  | _ => s

/-- The candidate has held a millisecond more, up to the 20 that end its hold time (R18). -/
def State.tickHold (s : State) : State :=
  let k := min Config.presenceMs (s.link.holdMs + 1)
  let t := { s with link := { s.link with holdMs := k } }
  if k = Config.presenceMs then t.holdEnd t.link.candidate else t

/-- What a step does when neither a command nor a byte waits: a millisecond of the internal timebase passes
(DESIGN CHOICE, log entry 3). -/
def State.tick (s : State) : State := s.finishSet.tickWatch.tickDelay.tickArm.tickHold

/-! ### The meanings -/

/-- POWER_ON (R187). -/
def execPowerOn (s : State) : Result := .next s.powerOn

/-- WORD_CLOCK_LOSS: the watch passes 1 ms without an edge (R11). -/
def execWordClockLoss (s : State) : Result := .next s.finishSet.watchEnd

/-- PRES_CHANGE: the level read on PRES changes (R18). -/
def execPresChange (level : Bool) (s : State) : Result :=
  let t := s.finishSet
  .next { t with link := t.link.readPres level }

/-- PRESENCE_BECOMES_TRUE: the candidate presence has held 20 ms (R18, R19). -/
def execPresenceBecomesTrue (s : State) : Result := .next (s.finishSet.holdEnd true)

/-- PRESENCE_BECOMES_FALSE: the candidate absence has held 20 ms (R18, R24). -/
def execPresenceBecomesFalse (s : State) : Result := .next (s.finishSet.holdEnd false)

/-- POWER_UP_DELAY_END: the 50 ms power-up delay ends (R20). -/
def execPowerUpDelayEnd (s : State) : Result := .next s.finishSet.powerUpEnd

/-- OVER_CURRENT: an over-current report from PSENSE (R26). -/
def execOverCurrent (s : State) : Result := .next s.finishSet.overCurrent

/-- ARM_TIMER_EXPIRY: the 10 s arm timer expires (R122). -/
def execArmTimerExpiry (s : State) : Result := .next s.finishSet.armEnd

/-- LEARN_COMMIT: the Profile Store takes the learn's commit (R109, R124). -/
def execLearnCommit (s : State) : Result := .next s.finishSet.takeLearnCommit

end Sys2Proof.Machine
end

