-- ==== Sys2Proof/Machine/PortRows.lean ====
section
/-!
DEFINITION. The Port Interfaces (Chapter 10): the transaction, frames and responses, the commands the
Port Interface owns, SET_CLOCK, PART_RESET and the read commands of the SIU, trackers and link monitor.
-/

namespace Sys2Proof.Machine

/-! ### The transaction (R177) -/

/-- CSx falls: RECEIVING with byte count 0 (R177). -/
def PortIf.fall (q : PortIf) : PortIf :=
  if q.csLow then q
  else { q with csLow := true, txn := .receiving, stored := [], byteCount := 0, answer := none, sent := 0 }

/-- CSx rises: IDLE; a partial frame is discarded, and so is what is unsent of a response (R177). -/
def PortIf.rise (q : PortIf) : PortIf :=
  if q.csLow then
    { q with csLow := false, txn := .idle, stored := [], byteCount := 0, answer := none, sent := 0 }
  else q

/-- The port is receiving and no byte of a frame has come: a frame as a whole can come (R177, log entry 7). -/
def PortIf.receives (q : PortIf) : Bool := q.txn == .receiving && q.stored.isEmpty

/-- The Port Interface answers a frame itself: the response is queued (R177, R178). The bytes of the frame
were answered with 0x00 (R176). -/
def PortIf.answerNow (q : PortIf) (bytes : Nat) (r : Response) : PortIf :=
  { q with txn := .answering, byteCount := bytes, answer := some r, sent := 0, sdo := 0 }

/-- A command is with its owner, which will answer with this response (R177). The bytes of the frame were
answered with 0x00 (R176). -/
def PortIf.handOver (q : PortIf) (bytes : Nat) (r : Response) : PortIf :=
  { q with txn := .waiting, byteCount := bytes, handed := some r, sdo := 0 }

/-- The owner answers: in WAITING the response is queued; a response whose transaction has ended is
discarded (R177). -/
def PortIf.ownerAnswers (q : PortIf) : PortIf :=
  match q.handed with
  | none => q
  | some r =>
    match q.txn with
    | .waiting => { q with txn := .answering, handed := none, answer := some r, sent := 0 }
    | _ => { q with handed := none }

/-- A frame with n argument bytes completes at a port. Outside RECEIVING its bytes are filler, or the
port is not selected (R176, R177, R187); behind bytes that are stored no whole frame comes (log entry
7). While an earlier command of the port is with its owner it is answered BUSY (R177). Else the command
is taken, between two events of its owner (R180), and the response is to come. -/
def State.frame (s : State) (p : Port) (n : Nat) (owner : State → State × Response) : State :=
  let q := s.ports.get p
  if q.receives then
    if q.handed.isSome then s.updPort p fun q => q.answerNow (n + 2) (refuse .busy)
    else
      let r := owner s.finishSet
      r.1.updPort p fun q => q.handOver (n + 2) r.2
  else s

/-- A frame the Port Interface answers without handing it to any block: nothing else changes (R178). -/
def State.ownAnswer (s : State) (p : Port) (n : Nat) (st : Status) : State :=
  let q := s.ports.get p
  if q.receives then
    s.updPort p fun q => q.answerNow (n + 2) (refuse (if q.handed.isSome then .busy else st))
  else s

/-! ### Bodies -/

/-- The body of READ_STATUS, 20 bytes (R182). -/
def statusBody (s : State) (p : Port) : List Byte :=
  let q := s.ports.get p
  be16 q.flags ++ be16 q.mask ++ be24 s.siu.stamp ++ byte s.siu.choice.code ++ bit s.siu.lock ++
    bit s.siu.fallback ++ byte s.siu.rate.code ++ byte s.link.state.code ++ bit s.link.presence ++
    bit s.link.supply ++ bit s.link.expect ++ byte s.link.width ++ be16 s.link.linkCounter ++
    byte s.learn.state.code ++ byte (s.streams.get p).state.code

/-- The body of READ_FLOORS, 35 bytes (R33, R181). -/
def floorsBody (s : State) : List Byte :=
  (Sin.all.flatMap fun i =>
    num16 (s.link.floors.get i) ++ bit (s.link.dropped.get i) ++ bit (s.store.global.analog i)) ++
  byte s.link.state.code ++
  num16 (if s.link.state = .settling then s.link.progress else 0)

/-- READ_COUNTERS: selector 0 names a string, 1 an input; anything else is refused INVALID (R65, R178,
R181). -/
def countersResponse (s : State) (selector number : Byte) : Response :=
  if selector = 0 then
    match StringNo.ofNumber? number.toNat with
    | none => refuse .invalid
    | some n =>
      let t := s.trackers.get n
      ok (be16 (s.cond.sat.get n) ++ be16 t.noise ++ be16 t.reject ++ be16 t.ghost)
  else if selector = 1 then
    match Sin.ofNumber? number.toNat with
    | none => refuse .invalid
    | some i =>
      let u := s.siu.inputs.get i
      ok (be16 u.clip ++ be16 u.stuck)
  else refuse .invalid

/-- READ_CONTEXT: a string outside 1..6 is refused INVALID (R98). -/
def contextResponse (s : State) (string : Byte) : Response :=
  match StringNo.ofNumber? string.toNat with
  | none => refuse .invalid
  | some n => ok ((s.trackers.get n).bytes (s.store.requested.get n))

/-- The body of IDENTIFY, 5 bytes (R181). -/
def identifyBody (p : Port) : List Byte :=
  num16 Config.partNumber ++ byte Config.familyCode ++ byte Config.partRevision ++ byte p.code

/-- SET_CLOCK: LOCKED when the lock is set, INVALID when the choice names nothing, else taken (R9). -/
def State.doSetClock (s : State) (choice : Byte) : State × Response :=
  if s.siu.lock then (s, { status := .locked, body := byte s.siu.choice.code })
  else
    match ClockChoice.ofCode? choice.toNat with
    | none => (s, refuse .invalid)
    | some c => (s.chooseClock c, ok (byte c.code))

/-- CLEAR_FLAGS at the sending port (R184). -/
def State.doClearFlags (s : State) (p : Port) (word : Half) : State × Response :=
  let t := s.updPort p fun q => { q with flags := clearIn q.flags word }
  (t, ok (be16 (t.ports.get p).flags))

/-- SET_ATTN_MASK at the sending port (R185). -/
def State.doSetMask (s : State) (p : Port) (word : Half) : State × Response :=
  (s.updPort p fun q => { q with mask := maskOf word }, ok (be16 (maskOf word)))

/-! ### The meanings -/

/-- PART_RESET: every block is reset, and the port that received it queues OK with an empty body at once;
the other port's transaction ends (R186). -/
def execPartReset (p : Port) (s : State) : Result :=
  let q := s.ports.get p
  if q.receives then
    if q.handed.isSome then .next (s.updPort p fun q => q.answerNow 2 (refuse .busy))
    else .next (s.partReset.updPort p fun q => q.answerNow 2 (ok []))
  else .next s

/-- CS_FALL (R177). -/
def execCsFall (p : Port) (s : State) : Result := .next (s.updPort p PortIf.fall)

/-- CS_RISE (R177). -/
def execCsRise (p : Port) (s : State) : Result := .next (s.updPort p PortIf.rise)

/-- RESPONSE_READY (R177). -/
def execResponseReady (p : Port) (s : State) : Result := .next (s.updPort p PortIf.ownerAnswers)

/-- UNKNOWN_COMMAND: a frame that names no command is answered UNKNOWN (R178); one that names no
subcommand of LINK_CONTROL or STREAM_CONTROL is handed over and refused INVALID (R30, R168, log entry 12). -/
def execUnknownCommand (p : Port) (code : Byte) (args : List Byte) (s : State) : Result :=
  if badSubcommand code args then .next (s.frame p args.length fun t => (t, refuse .invalid))
  else .next (s.ownAnswer p args.length .unknown)

/-- MALFORMED_FRAME: the argument length is not the one of the code (R178). -/
def execMalformedFrame (p : Port) (_code : Byte) (args : List Byte) (s : State) : Result :=
  .next (s.ownAnswer p args.length .malformed)

/-- BUSY_FRAME: a frame completed while the port's earlier command is still with its owner is answered
BUSY; with no such command there is no such frame, and nothing changes (R177). -/
def execBusyFrame (p : Port) (_code : Byte) (args : List Byte) (s : State) : Result :=
  if (s.ports.get p).handed.isSome then .next (s.ownAnswer p args.length .busy) else .next s

/-- IDENTIFY (R181, R182). -/
def execIdentify (p : Port) (s : State) : Result := .next (s.frame p 0 fun t => (t, ok (identifyBody p)))

/-- SET_CLOCK (R9). -/
def execSetClock (p : Port) (choice : Byte) (s : State) : Result :=
  .next (s.frame p 1 fun t => t.doSetClock choice)

/-- READ_STATUS (R182). -/
def execReadStatus (p : Port) (s : State) : Result :=
  .next (s.frame p 0 fun t => (t, ok (statusBody t p)))

/-- CLEAR_FLAGS (R184). -/
def execClearFlags (p : Port) (word : Half) (s : State) : Result :=
  .next (s.frame p 2 fun t => t.doClearFlags p word)

/-- SET_ATTN_MASK (R185). -/
def execSetAttnMask (p : Port) (word : Half) (s : State) : Result :=
  .next (s.frame p 2 fun t => t.doSetMask p word)

/-- READ_CONTEXT (R98). -/
def execReadContext (p : Port) (string : Byte) (s : State) : Result :=
  .next (s.frame p 1 fun t => (t, contextResponse t string))

/-- READ_COUNTERS (R4, R5, R41, R65, R83). -/
def execReadCounters (p : Port) (selector number : Byte) (s : State) : Result :=
  .next (s.frame p 2 fun t => (t, countersResponse t selector number))

/-- READ_FLOORS (R33). -/
def execReadFloors (p : Port) (s : State) : Result := .next (s.frame p 0 fun t => (t, ok (floorsBody t)))

end Sys2Proof.Machine
end

