-- ==== Sys2Proof/Machine/StoreRows.lean ====
section
/-!
DEFINITION. The commands of the Profile Store, the link monitor and the Learn Engine.
-/

namespace Sys2Proof.Machine

/-! ### The Learn Engine's commands (R121, R129, R130) -/

/-- The BUSY body of LEARN_START: target string, target bank, starting port and learn state of the learn
in flight (R193). -/
def busyBody (t : Target) (st : LearnState) : List Byte :=
  byte t.string.number ++ byte t.bank.code ++ byte t.port.code ++ byte st.code

/-- A taken LEARN_START: ARMED with the arm timer at 10,000 ms (R121). -/
def State.armLearn (s : State) (t : Target) : State :=
  { s with learn := { s.learn with state := .armed t Config.armMs } }

/-- LEARN_START, in the steps of R121. -/
def State.doLearnStart (s : State) (p : Port) (string bank : Byte) (base : Half) : State × Response :=
  match StringNo.ofNumber? string.toNat, Bank.ofCode? bank.toNat with
  | some n, some k =>
    match s.learn.state.target with
    | some t => (s, { status := .busy, body := busyBody t s.learn.state })
    | none =>
      if s.link.state ≠ .active then (s, { status := .state, body := byte s.link.state.code })
      else if s.usable n = false then (s, refuse .invalid)
      else if base ≠ (s.store.profile k n).revision then
        (s, staleResponse (s.store.profile k n).revision)
      else (s.armLearn ⟨n, k, base, p⟩, ok (byte n.number ++ byte k.code ++ be16 base))
  | _, _ => (s, refuse .invalid)

/-- LEARN_ABORT (R129). -/
def State.doLearnAbort (s : State) (p : Port) : State × Response :=
  match s.learn.state.open? with
  | some t =>
    let r := s.endLearn t { LastResult.empty with code := .aborted, abortPort := some p }
    (r, ok r.learn.last.bytes)
  | none => (s, { status := .state, body := byte s.learn.state.code ++ s.learn.last.bytes })

/-! ### The meanings -/

/-- READ_PROFILE (R103). -/
def execReadProfile (p : Port) (bank string : Byte) (s : State) : Result :=
  .next (s.frame p 2 fun t => t.doReadProfile bank string)

/-- EDIT_PROFILE (R104). -/
def execEditProfile (p : Port) (bank string : Byte) (base : Half) (image : ProfileImage) (s : State) :
    Result :=
  .next (s.frame p 27 fun t => t.doEditProfile p bank string base image)

/-- READ_GLOBAL (R103). -/
def execReadGlobal (p : Port) (s : State) : Result := .next (s.frame p 0 State.doReadGlobal)

/-- EDIT_GLOBAL (R105). -/
def execEditGlobal (p : Port) (base : Half) (image : GlobalImage) (s : State) : Result :=
  .next (s.frame p 21 fun t => t.doEditGlobal p base image)

/-- SELECT_BANK (R116). -/
def execSelectBank (p : Port) (mask bank : Byte) (s : State) : Result :=
  .next (s.frame p 2 fun t => t.doSelectBank mask bank)

/-- RETRAIN (R31). -/
def execRetrain (p : Port) (s : State) : Result := .next (s.frame p 1 State.doRetrain)

/-- DISABLE (R32). -/
def execDisable (p : Port) (s : State) : Result := .next (s.frame p 1 State.doDisable)

/-- ENABLE (R32). -/
def execEnable (p : Port) (s : State) : Result := .next (s.frame p 1 State.doEnable)

/-- EXPECT_REMOVAL (R25). -/
def execExpectRemoval (p : Port) (s : State) : Result := .next (s.frame p 1 State.doExpectRemoval)

/-- LEARN_START (R121). -/
def execLearnStart (p : Port) (string bank : Byte) (base : Half) (s : State) : Result :=
  .next (s.frame p 4 fun t => t.doLearnStart p string bank base)

/-- LEARN_ABORT (R129). -/
def execLearnAbort (p : Port) (s : State) : Result := .next (s.frame p 0 fun t => t.doLearnAbort p)

/-- LEARN_STATUS (R130). -/
def execLearnStatus (p : Port) (s : State) : Result :=
  .next (s.frame p 0 fun t => (t, ok t.learn.bytes))

end Sys2Proof.Machine
end

