-- ==== Sys2Proof/Machine/StreamRows.lean ====
section
/-!
DEFINITION. The commands of the Stream Units.
-/

namespace Sys2Proof.Machine

/-- SET_STREAM (R137). -/
def execSetStream (p : Port) (image : SettingsImage) (s : State) : Result :=
  .next (s.frame p 11 fun t => t.doSetStream p image)

/-- READ_STREAM (R139, R174). -/
def execReadStream (p : Port) (s : State) : Result :=
  .next (s.frame p 0 fun t => (t, ok (t.streams.get p).bytes))

/-- SET_FILTER (R149); its length is 1 + 3k for k entries (R178). -/
def execSetFilter (p : Port) (entries : List FilterImage) (s : State) : Result :=
  .next (s.frame p (1 + 3 * entries.length) fun t => t.doSetFilter p entries)

/-- READ_FILTER (R149). -/
def execReadFilter (p : Port) (s : State) : Result := .next (s.frame p 0 fun t => t.doReadFilter p)

/-- STREAM_CONTROL START (R169). -/
def execStreamStart (p : Port) (s : State) : Result := .next (s.frame p 1 fun t => t.doStart p)

/-- STREAM_CONTROL STOP (R170). -/
def execStreamStop (p : Port) (s : State) : Result := .next (s.frame p 1 fun t => t.doStop p)

/-- STREAM_CONTROL HOLD (R171). -/
def execStreamHold (p : Port) (s : State) : Result := .next (s.frame p 1 fun t => t.doHold p)

/-- STREAM_CONTROL RESUME (R171). -/
def execStreamResume (p : Port) (s : State) : Result := .next (s.frame p 1 fun t => t.doResume p)

/-- STREAM_CONTROL RESYNC (R172). -/
def execStreamResync (p : Port) (s : State) : Result := .next (s.frame p 1 fun t => t.doResync p)

/-- STREAM_CONTROL RESET (R173). -/
def execStreamReset (p : Port) (s : State) : Result := .next (s.frame p 1 fun t => t.doReset p)

/-- FETCH (R161). -/
def execFetch (p : Port) (s : State) : Result := .next (s.frame p 0 fun t => t.doFetch p)

/-- RELEASE (R162). -/
def execRelease (p : Port) (seq : Byte) (s : State) : Result :=
  .next (s.frame p 1 fun t => t.doRelease p seq)

/-- READ_LATCH (R151). -/
def execReadLatch (p : Port) (s : State) : Result := .next (s.frame p 0 fun t => t.doReadLatch p)

/-- POST_CUE (R152). -/
def execPostCue (p : Port) (destinations : Byte) (code : Half) (s : State) : Result :=
  .next (s.frame p 3 fun t => t.doPostCue p destinations code)

/-- READ_PORT_COUNTERS (R174). -/
def execReadPortCounters (p : Port) (s : State) : Result :=
  .next (s.frame p 0 fun t => t.doReadPortCounters p)

/-- CLEAR_PORT_COUNTERS (R174). -/
def execClearPortCounters (p : Port) (s : State) : Result :=
  .next (s.frame p 0 fun t => t.doClearPortCounters p)

end Sys2Proof.Machine
end

