-- ==== Sys2Proof/Machine/Dispatch.lean ====
section
/-!
DEFINITION. The meaning of every command and event: one arm for each constructor of `Instr`.
-/

namespace Sys2Proof.Machine

/-- The effect of a command or event on everything but the queue. -/
def exec (i : Instr) (s : State) : Host.Outcome State Fault Refusal :=
  match i with
  | .powerOn => Sys2Proof.Machine.execPowerOn s
  | .partReset p => Sys2Proof.Machine.execPartReset p s
  | .conversionSet src pins order => Sys2Proof.Machine.execConversionSet src pins order s
  | .stuckEpisodeBegin x => Sys2Proof.Machine.execStuckEpisodeBegin x s
  | .stuckLong x => Sys2Proof.Machine.execStuckLong x s
  | .auxEvaluation x => Sys2Proof.Machine.execAuxEvaluation x s
  | .digitalAuxPublish x => Sys2Proof.Machine.execDigitalAuxPublish x s
  | .settleWindowEnd => Sys2Proof.Machine.execSettleWindowEnd s
  | .stall n => Sys2Proof.Machine.execStall n s
  | .onsetTimeout n => Sys2Proof.Machine.execOnsetTimeout n s
  | .releaseTimerEnd n => Sys2Proof.Machine.execReleaseTimerEnd n s
  | .levelTimer n => Sys2Proof.Machine.execLevelTimer n s
  | .wordClockLoss => Sys2Proof.Machine.execWordClockLoss s
  | .presChange level => Sys2Proof.Machine.execPresChange level s
  | .presenceBecomesTrue => Sys2Proof.Machine.execPresenceBecomesTrue s
  | .presenceBecomesFalse => Sys2Proof.Machine.execPresenceBecomesFalse s
  | .powerUpDelayEnd => Sys2Proof.Machine.execPowerUpDelayEnd s
  | .overCurrent => Sys2Proof.Machine.execOverCurrent s
  | .armTimerExpiry => Sys2Proof.Machine.execArmTimerExpiry s
  | .captureEnd => Sys2Proof.Machine.execCaptureEnd s
  | .learnCommit => Sys2Proof.Machine.execLearnCommit s
  | .publicationTaken p m => Sys2Proof.Machine.execPublicationTaken p m s
  | .idleTimerExpiry p => Sys2Proof.Machine.execIdleTimerExpiry p s
  | .csFall p => Sys2Proof.Machine.execCsFall p s
  | .csRise p => Sys2Proof.Machine.execCsRise p s
  | .responseReady p => Sys2Proof.Machine.execResponseReady p s
  | .unknownCommand p code args => Sys2Proof.Machine.execUnknownCommand p code args s
  | .identify p => Sys2Proof.Machine.execIdentify p s
  | .setClock p choice => Sys2Proof.Machine.execSetClock p choice s
  | .readStatus p => Sys2Proof.Machine.execReadStatus p s
  | .clearFlags p word => Sys2Proof.Machine.execClearFlags p word s
  | .setAttnMask p word => Sys2Proof.Machine.execSetAttnMask p word s
  | .readContext p string => Sys2Proof.Machine.execReadContext p string s
  | .readCounters p selector number => Sys2Proof.Machine.execReadCounters p selector number s
  | .readFloors p => Sys2Proof.Machine.execReadFloors p s
  | .readProfile p bank string => Sys2Proof.Machine.execReadProfile p bank string s
  | .editProfile p bank string base image => Sys2Proof.Machine.execEditProfile p bank string base image s
  | .readGlobal p => Sys2Proof.Machine.execReadGlobal p s
  | .editGlobal p base image => Sys2Proof.Machine.execEditGlobal p base image s
  | .selectBank p mask bank => Sys2Proof.Machine.execSelectBank p mask bank s
  | .retrain p => Sys2Proof.Machine.execRetrain p s
  | .disable p => Sys2Proof.Machine.execDisable p s
  | .enable p => Sys2Proof.Machine.execEnable p s
  | .expectRemoval p => Sys2Proof.Machine.execExpectRemoval p s
  | .learnStart p string bank base => Sys2Proof.Machine.execLearnStart p string bank base s
  | .learnAbort p => Sys2Proof.Machine.execLearnAbort p s
  | .learnStatus p => Sys2Proof.Machine.execLearnStatus p s
  | .setStream p image => Sys2Proof.Machine.execSetStream p image s
  | .readStream p => Sys2Proof.Machine.execReadStream p s
  | .setFilter p entries => Sys2Proof.Machine.execSetFilter p entries s
  | .readFilter p => Sys2Proof.Machine.execReadFilter p s
  | .streamStart p => Sys2Proof.Machine.execStreamStart p s
  | .streamStop p => Sys2Proof.Machine.execStreamStop p s
  | .streamHold p => Sys2Proof.Machine.execStreamHold p s
  | .streamResume p => Sys2Proof.Machine.execStreamResume p s
  | .streamResync p => Sys2Proof.Machine.execStreamResync p s
  | .streamReset p => Sys2Proof.Machine.execStreamReset p s
  | .fetch p => Sys2Proof.Machine.execFetch p s
  | .release p seq => Sys2Proof.Machine.execRelease p seq s
  | .readLatch p => Sys2Proof.Machine.execReadLatch p s
  | .postCue p destinations code => Sys2Proof.Machine.execPostCue p destinations code s
  | .readPortCounters p => Sys2Proof.Machine.execReadPortCounters p s
  | .clearPortCounters p => Sys2Proof.Machine.execClearPortCounters p s
  | .malformedFrame p code args => Sys2Proof.Machine.execMalformedFrame p code args s
  | .busyFrame p code args => Sys2Proof.Machine.execBusyFrame p code args s

end Sys2Proof.Machine
end

