-- ==== Sys2Proof/Machine/Serial.lean ====
section
/-!
DEFINITION. The bytes of a port one by one (R176, R177): what SDOx sends for a byte, the storing of a
frame's bytes with the command that its last byte completes, and what a step does when no row waits.
-/

namespace Sys2Proof.Machine

/-- The byte that SDOx sends for the next byte clocked: the next one of a response that is queued, and
0x00 for every byte of a frame, of a wait and behind a response (R176). -/
def PortIf.out (q : PortIf) : Byte :=
  match q.txn, q.answer with
  | .answering, some r => r.bytes.getD q.sent 0
  | _, _ => 0

/-- A byte is clocked whose value the part ignores: a byte of the response is sent, and with the last one
the transaction is DONE; in every other state it is filler (R176, R177). -/
def PortIf.clockOut (q : PortIf) : PortIf :=
  match q.txn, q.answer with
  | .answering, some r =>
    { q with sdo := q.out, sent := q.sent + 1,
             txn := if r.bytes.length ≤ q.sent + 1 then .done else .answering }
  | _, _ => { q with sdo := 0 }

/-- A byte of a frame that it does not complete is stored and counted (R177). -/
def PortIf.store (q : PortIf) (b : Byte) : PortIf :=
  { q with stored := q.stored ++ [b], byteCount := q.stored.length + 1, sdo := 0 }

/-- The frame is complete: its row stands for its bytes. -/
def PortIf.takeFrame (q : PortIf) : PortIf := { q with stored := [], byteCount := 0 }

/-- A byte completes at a port. In RECEIVING it is stored, and the last one of a frame takes the command
(R177, R178); in the other states of a transaction it is filler; a port that is not selected takes none. -/
def State.clockByte (s : State) (p : Port) (b : Byte) : Result :=
  let q := s.ports.get p
  if q.csLow = false then .next s
  else if q.txn = .receiving then
    match decodeFrame p (q.stored ++ [b]) with
    | some c => exec c (s.updPort p PortIf.takeFrame)
    | none => .next (s.updPort p fun q => q.store b)
  else .next (s.updPort p PortIf.clockOut)

/-- Bytes complete at a port one after another. -/
def State.clockBytes (s : State) (p : Port) : List Byte → Result
  | [] => .next s
  | b :: l =>
    match s.clockByte p b with
    | .next t => t.clockBytes p l
    | r => r

/-- What a step does when no row waits: a byte that waits at port A, or else at port B, is clocked, and
without one a millisecond of the internal timebase passes (DESIGN CHOICE, log entries 3 and 7). -/
def State.idle (s : State) : Result :=
  match s.ports.a.sdi, s.ports.b.sdi with
  | b :: l, _ => (s.updPort .a fun q => { q with sdi := l }).clockByte .a b
  | [], b :: l => (s.updPort .b fun q => { q with sdi := l }).clockByte .b b
  | [], [] => .next s.tick

end Sys2Proof.Machine
end

