-- ==== Sys2Proof/Safety.lean ====
section
/-!
DEFINITION. The predicates the statements are written with: when a port takes a command, what a port
looks like while a response is to come, and the invariants of the part.
-/

namespace Sys2Proof.Machine

/-! ### When a command is taken -/

/-- Port p is receiving with no byte of a frame stored, and no earlier command of it is with its owner
(R177). -/
def State.listens (s : State) (p : Port) : Bool :=
  (s.ports.get p).receives && (s.ports.get p).handed.isNone

/-- Port p takes the command that completes, and nothing of the last conversion set is left to be done
(log entry 1). -/
def State.ready (s : State) (p : Port) : Bool := s.listens p && s.settled

/-- The part once port p's command of n argument bytes has been taken: its transaction waits, with the
response that its owner will give (R177), and 0x00 was sent for its bytes (R176). -/
def State.awaits (s : State) (p : Port) (n : Nat) (st : Status) (body : List Byte) : State :=
  s.updPort p fun q => { q with txn := .waiting, byteCount := n + 2, handed := some ⟨st, body⟩, sdo := 0 }

/-- The part once the Port Interface of p has itself answered a frame of n argument bytes, with an empty
body, and 0x00 was sent for its bytes (R176, R177, R178). -/
def State.answers (s : State) (p : Port) (n : Nat) (st : Status) : State :=
  s.updPort p fun q =>
    { q with txn := .answering, byteCount := n + 2, answer := some ⟨st, []⟩, sent := 0, sdo := 0 }

/-- No event of any tracker's last sample is waiting. -/
def State.trackersQuiet (s : State) : Bool := StringNo.all.all fun n => !(s.trackers.get n).due

/-! ### The records -/

/-- The numeric fields of a string profile record lie in their ranges, its window is not empty, and an
override part that is present holds a field (R100, R101). -/
def Profile.legal (r : Profile) : Bool :=
  decide (2800 ≤ r.windowLow ∧ r.windowLow ≤ r.windowHigh ∧ r.windowHigh ≤ 10400) &&
  decide (4 ≤ r.gateOn ∧ r.gateOn ≤ 64 ∧ 2 ≤ r.gateOff ∧ r.gateOff ≤ 15) &&
  decide (20 ≤ r.repick ∧ r.repick ≤ 64 ∧ 1 ≤ r.sens ∧ r.sens ≤ 255 ∧ 4 ≤ r.decay ∧ r.decay ≤ 12) &&
  decide (240 ≤ r.releaseHold ∧ r.releaseHold ≤ 9600) &&
  decide (r.bleedThinner ≤ 8192 ∧ r.bleedThicker ≤ 8192) &&
  match r.override with
  | none => true
  | some o =>
    (o.tol.isSome || o.onsetTimeout.isSome || o.jump.isSome) &&
    (o.tol.all fun k => decide (2 ≤ k ∧ k ≤ 32)) &&
    (o.onsetTimeout.all fun k => decide (480 ≤ k ∧ k ≤ 4800)) &&
    (o.jump.all fun k => decide (60 ≤ k ∧ k ≤ 300))

/-- The fields of the global record lie in their ranges, and its map names distinct analog inputs (R101,
R102, R105). -/
def Global.legal (g : Global) : Bool :=
  decide (6 ≤ g.na ∧ g.na ≤ 8 ∧ -50 ≤ g.offset ∧ g.offset ≤ 50) &&
  (Sin.all.all fun i => decide (g.gains.get i ≤ 3)) &&
  (StringNo.all.all fun n => (g.map.get n).all fun i => g.analog i) &&
  (StringNo.all.all fun n => StringNo.all.all fun m =>
    n == m || (g.map.get n).isNone || g.map.get n != g.map.get m)

/-- The three values a learn measured lie in the ranges of the fields they replace (R125). -/
def Measured.legal (m : Measured) : Bool :=
  decide (m.bleedThinner ≤ 8192 ∧ m.bleedThicker ≤ 8192 ∧ 1 ≤ m.sens ∧ m.sens ≤ 255)

/-- The values a learn has handed to the store, if it has. -/
def LearnState.handedOver : LearnState → Option Measured
  | .capture _ _ _ handed => handed
  | _ => none

/-- Every stored record is legal, what a learn has handed over is, and the accumulators are those of
the analog inputs (R37, R100, R102, R125). -/
def State.recordsOk (s : State) : Bool :=
  s.store.global.legal &&
  (StringNo.all.all fun n => (s.store.profile .a n).legal && (s.store.profile .b n).legal) &&
  (s.learn.state.handedOver.all Measured.legal) &&
  (Sin.all.all fun i => s.store.global.analog i == (s.cond.dc.get i != .absent))

/-! ### The ending of a learn -/

/-- The part once a learn of target t has ended with a result, at the stamp of the most recent conversion
set: the engine is IDLE and LEARN_DONE is raised at the starting port (R130). -/
def State.learnEnds (s : State) (t : Target) (r : LastResult) : State :=
  State.raise { s with learn := { state := .idle, last := { r with target := some (t, s.siu.stamp) } } }
    t.port .learnDone

/-- The result of a learn that failed for a reason outside its capture (R120). -/
def LastResult.failure (r : LearnReason) : LastResult :=
  { code := .failed, reason := some r, target := none, abortPort := none, peaks := none,
    measured := none, revision := none }

/-! ### What a tracker becomes at its boundaries -/

/-- The working copy that string n's tracker takes from bank k: the record of that bank, the grade where
no override is held, and the floor of the string's input, as they stand (R75). -/
def State.copyFor (s : State) (n : StringNo) (k : Bank) : WorkingCopy :=
  copyOf (s.store.profile k n) s.store.global.grade (s.floorOf n)

/-- Tracker n as it is after an entry to SILENT: no note, no timer, the requested bank in effect with a
new working copy, and E to be cleared from the next sample (R81). -/
def State.silentEntry (s : State) (n : StringNo) (t : Tracker) : Tracker :=
  { t with state := .silent, note := none, onsetTimer := none, releaseTimer := none,
           levelTimer := none, bank := s.store.requested.get n,
           copy := s.copyFor n (s.store.requested.get n), clearE := true }

/-- Tracker n as it is after an onset: steps 1 to 5 of R80, with the onset peak given. -/
def State.onsetEntry (s : State) (n : StringNo) (peak : Nat) (t : Tracker) : Tracker :=
  { t with state := .onset, note := none, onsetTimer := some 0, releaseTimer := none,
           levelTimer := none, onsetStamp := s.siu.stamp, onsetPeak := peak,
           bank := s.store.requested.get n, copy := s.copyFor n (s.store.requested.get n),
           clearHistory := true }

/-- The BANK_ADOPTED notice of a boundary: made when a bank is pending (R91). -/
def State.adoption (s : State) (n : StringNo) : List Publication :=
  if (s.trackers.get n).bank = s.store.requested.get n then []
  else [.notice .bankAdopted n.number (s.store.requested.get n).code]

/-- What waits at a stream once tracker n has made some publications. -/
def State.waitsAfter (s : State) (p : Port) (n : StringNo) (made : List Publication) : List Waiting :=
  (s.streams.get p).waiting ++ made.map fun u => ⟨.tracker n, s.siu.stamp, s.phase, u⟩

/-! ### The invariants of the blocks -/

/-- A Port Interface: flags and mask hold their ten bits alone (R183, R185); a port that is not selected
is IDLE (R177); bytes are stored in RECEIVING alone, counted, and fewer than the frame they begin has; a
response is queued in ANSWERING and DONE and in no other state, sent in part in the first and whole in the
second; in WAITING the command is with its owner (R177). -/
def PortIf.ok (q : PortIf) : Bool :=
  q.flags &&& 0xFC00 == 0 && q.mask &&& 0xFC00 == 0 && (q.csLow || q.txn == .idle) &&
  (q.stored.isEmpty || q.txn == .receiving) &&
  match q.txn with
  | .idle => q.answer.isNone && q.byteCount == 0 && q.sent == 0
  | .receiving =>
    q.answer.isNone && q.byteCount == q.stored.length && q.sent == 0 &&
      match q.stored with
      | _ :: n :: args => decide (args.length < n.toNat)
      | _ => true
  | .waiting => q.answer.isNone && q.handed.isSome && q.sent == 0
  | .answering => q.answer.any fun r => decide (q.sent < r.bytes.length)
  | .done => q.answer.any fun r => q.sent == r.bytes.length

/-- Both Port Interfaces are as R177, R183 and R185 say. -/
def State.portsOk (s : State) : Bool := s.ports.a.ok && s.ports.b.ok

/-- A held note lies in its ranges, with its pitch in the window of the working copy (R69, R74). -/
def Tracker.noteOk (t : Tracker) : Bool :=
  t.note.all fun h =>
    decide (28 ≤ h.anchor ∧ h.anchor ≤ 104 ∧ 1 ≤ h.velocity ∧ h.velocity ≤ 127) &&
    decide ((t.copy.windowLow : Int) ≤ h.pitch ∧ h.pitch ≤ (t.copy.windowHigh : Int))

/-- The working copy holds a legal window and a gate pair (R75, R76). -/
def WorkingCopy.ok (c : WorkingCopy) : Bool :=
  decide (2800 ≤ c.windowLow ∧ c.windowHigh ≤ 10400 ∧ 64 ≤ c.gOn ∧ 8 ≤ c.gOff ∧ c.gOff < c.gOn)

/-- A tracker: a note is held in SOUNDING and RELEASING alone, each timer runs in its states alone (R74,
R82, R87, R88), E is 0 in MUTED (R78), and E, the peaks, the history and the stall count lie in their
ranges (R51, R57, R59, R60). -/
def Tracker.ok (t : Tracker) : Bool :=
  let sounds := t.state == .sounding || t.state == .releasing
  (t.note.isSome == sounds) && (t.levelTimer.isSome == sounds) &&
  (t.onsetTimer.isSome == (t.state == .onset)) && (t.releaseTimer.isSome == (t.state == .releasing)) &&
  (t.state != .muted || t.e == 0) && t.noteOk && t.copy.ok &&
  decide (t.e ≤ 32767 ∧ t.curPeak ≤ 32767 ∧ t.prevPeak ≤ 32767 ∧ t.onsetPeak ≤ 32767) &&
  decide (-32768 ≤ t.prevY ∧ t.prevY ≤ 32767) &&
  decide (t.history.length ≤ 3) && (t.history.all fun i => decide (128 ≤ i ∧ i ≤ 20000)) &&
  (t.lastMark.isSome || (t.history.isEmpty && t.stall == 0)) && decide (t.stall ≤ 1250)

/-- Every tracker is as it must be. -/
def State.trackersOk (s : State) : Bool := StringNo.all.all fun n => (s.trackers.get n).ok

/-- The link monitor with what hangs on it: the supply is on in POWERING, SETTLING and ACTIVE (R17),
EXPECT is set in ACTIVE alone (R25), the delay runs in POWERING and a window in SETTLING (R20, R21), the
presence is what the state says (R18, R24), the width is the number of usable strings, a string is usable
exactly when its tracker is not MUTED (R28, R78, R79), and a learn that can still be ended has a usable
target (R121, R127). -/
def State.linkOk (s : State) : Bool :=
  let k := s.link
  (k.supply == k.state.supplied) && (!k.expect || k.state == .active) &&
  (k.delayMs.isSome == (k.state == .powering)) && (k.progress == 0 || k.state == .settling) &&
  decide (k.progress ≤ 8192) && (k.state == .disabled || k.presence == (k.state != .absent)) &&
  (Sin.all.all fun i => decide (k.floors.get i ≤ 32767 ∧ k.windowMax.get i ≤ 32767)) &&
  (k.width == s.usableCount) &&
  (StringNo.all.all fun n => s.usable n == ((s.trackers.get n).state != .muted)) &&
  (s.learn.state.open?.all fun t => s.usable t.string)

/-- The settings lie in their ranges (R136). -/
def Settings.legal (t : Settings) : Bool :=
  decide (1 ≤ t.bendRange ∧ t.bendRange ≤ 24 ∧ t.stepHyst ≤ 40 ∧ 1 ≤ t.bendStep ∧ t.bendStep ≤ 512) &&
  decide (1 ≤ t.levelStep ∧ t.levelStep ≤ 32 ∧ 48 ≤ t.idleTimeout ∧ t.idleTimeout ≤ 48000) &&
  decide (8 ≤ t.packetLimit ∧ t.packetLimit ≤ 32 ∧ 2 ≤ t.ringLength ∧ t.ringLength ≤ 16)

/-- The CLOSED packets carry consecutive sequence numbers that end before the next one (R157), from the
newest back. -/
def seqsEndAt : Byte → List ClosedPacket → Bool
  | _, [] => true
  | next, k :: l => k.seq == next - 1 && seqsEndAt (next - 1) l

/-- A Stream Unit: settings and table are legal (R136, R149); at most ring_length packets are not FREE,
and none is FREE in OVERFLOW (R156, R163); a packet is OPEN in RUNNING alone and holds 1 record or more and
fewer than its limit (R156, R158); every CLOSED packet holds 1 record or more up to its limit, as its header
says, and the numbers are consecutive (R157); a view entry without a note holds bend 0 and level 0, and
every bend lies in its range (R134); the counts stop at 65535 and the gap count is 0 outside OVERFLOW (R163,
R164). -/
def Stream.ok (t : Stream) : Bool :=
  t.settings.legal && decide (t.filter.length ≤ 8) &&
  (t.filter.all fun e => e.action != .latch || e.kinds &&& 7 == 0) &&
  decide (t.closed.length + t.openCount ≤ t.settings.ringLength) &&
  decide (t.openPos < t.settings.ringLength) &&
  (t.state != .overflow || (t.closed.length == t.settings.ringLength)) &&
  (t.opened.all fun k => t.state == .running && k.limit == t.settings.packetLimit &&
    decide (1 ≤ k.records.length ∧ k.records.length < k.limit ∧ k.idleLeft ≤ 48000)) &&
  (t.closed.all fun k => k.count == k.records.length && k.limit == t.settings.packetLimit &&
    decide (1 ≤ k.count ∧ k.count ≤ k.limit)) &&
  seqsEndAt t.nextSeq t.closed.reverse &&
  (StringNo.all.all fun n => (t.view.get n).note.isSome || (t.view.get n) == ⟨none, 0, 0⟩) &&
  (StringNo.all.all fun n => decide (-8192 ≤ (t.view.get n).bend ∧ (t.view.get n).bend ≤ 8191)) &&
  (t.state == .overflow || t.gap == 0) &&
  decide (t.gap ≤ 65535 ∧ t.lost ≤ 65535 ∧ t.overruns ≤ 65535)

/-- Both Stream Units are as they must be. -/
def State.streamsOk (s : State) : Bool := s.streams.a.ok && s.streams.b.ok

end Sys2Proof.Machine
end

