-- ==== Sys2Proof/Certificates/Slice0/Obligations.lean ====
section
/-!
DEFINITION. The statements for the provers. A command row is stated for a port that takes it and a
state in which nothing of the last conversion set is left to be done (`State.ready`, `State.settled`);
`Obligations.RowsMeetAFinishedSet` carries them to every other state. A name under `Claims` is a part of
the statement that follows it.
-/

open Sys2Proof Sys2Proof.Machine

/-! ### The step and the queue -/

/-- A step takes the command at the front of the queue and runs it on the part with the rest. -/
def Obligations.StepTakesTheFront : Prop :=
  ∀ (c : Instr) (rest : List Instr) (s : State), s.pending = c :: rest →
    step s = exec c { s with pending := rest }

/-- No command or event is ever refused, stops the part or touches the queue: each answers a next state
with the queue as it was. The spec gives every row an effect and stops the part nowhere, and a reset leaves
the rows that wait behind it: both are the model's reading (log entries 24 and 20). -/
def Obligations.EveryCommandAnswersNext : Prop :=
  ∀ (c : Instr) (s : State), ∃ t, exec c s = .next t ∧ t.pending = s.pending

/-- Finishing a conversion set's handling leaves nothing of it (the model's choice, log entry 1). -/
def Claims.FinishingLeavesASettledState : Prop :=
  ∀ s : State, s.finishSet.settled = true ∧ (s.settled = true → s.finishSet = s)

/-- A command frame whose port takes it meets a part in which the last set's handling is complete: it
acts on `s` as on `s.finishSet` (the model's choice, log entry 1). PART_RESET and the frames the Port
Interface answers itself need no such thing. -/
def Claims.CommandsFinishTheSetFirst : Prop :=
  ∀ (c : Instr) (p : Port) (code : Byte) (args : List Byte) (s : State),
    frameOf? c = some (p, code, args) → c.wellFormed = true → argLength? code args = some args.length →
    c ≠ .partReset p → c ≠ .busyFrame p code args → s.listens p = true →
    exec c s = exec c s.finishSet

/-- The rows of pins and timebase meet a part in which the last set's handling is complete, and so does a
conversion set from the source in force; a stuck-long report and a window end that are due meet one whose
trackers have taken the events of their samples (R77, R94; the model's choice, log entry 1). -/
def Claims.EventsFinishTheSetFirst : Prop :=
  ∀ s : State,
    (∀ c ∈ [Instr.wordClockLoss, .presenceBecomesTrue, .presenceBecomesFalse, .powerUpDelayEnd,
        .overCurrent, .armTimerExpiry, .learnCommit, .presChange true, .presChange false],
      exec c s = exec c s.finishSet) ∧
    (∀ (src : SampleSource) (pins : SetInputs) (order : SetOrder),
      (src = .internalTick ↔ s.siu.choice = .internal) →
      exec (.conversionSet src pins order) s = exec (.conversionSet src pins order) s.finishSet) ∧
    s.finishTrackers.trackersQuiet = true ∧
    (∀ i, (s.siu.inputs.get i).longDue = true →
      exec (.stuckLong i) s = exec (.stuckLong i) s.finishTrackers) ∧
    (s.windowDue = true → exec .settleWindowEnd s = exec .settleWindowEnd s.finishTrackers)

/-- The end of a set's handling leaves nothing of it, and commands and events meet the part with it done (the
model's choice, log entry 1). -/
def Obligations.RowsMeetAFinishedSet : Prop :=
  Claims.FinishingLeavesASettledState ∧ Claims.CommandsFinishTheSetFirst ∧ Claims.EventsFinishTheSetFirst

/-- A byte that waits is clocked by a step on an empty queue, at port A before port B (the model's choice, log
entry 7). -/
def Claims.EmptyQueueClocksAByte : Prop :=
  ∀ (b : Byte) (l : List Byte) (s : State), s.pending = [] →
    (s.ports.a.sdi = b :: l →
      step s = (s.updPort .a fun q => { q with sdi := l }).clockByte .a b) ∧
    (s.ports.a.sdi = [] → s.ports.b.sdi = b :: l →
      step s = (s.updPort .b fun q => { q with sdi := l }).clockByte .b b)

/-- Without a byte it is a millisecond of the internal timebase (the model's choice, log entry 3). With no
timer at its end it counts the hold time, the power-up delay and the arm timer by a millisecond, and the
watch begins its next one. A watch that no edge has fed in the millisecond, a delay or an arm timer at its
end acts as its row does, before the rest (R10, R11, R20, R122); a hold time that ends makes the presence the
candidate (R18). -/
def Claims.EmptyQueueIsAMillisecond : Prop :=
  ∀ s : State, s.pending = [] → s.ports.a.sdi = [] → s.ports.b.sdi = [] →
    let watched := s.siu.watch = false ∨ s.siu.fed = true
    let delays := ∀ k, s.link.delayMs = some k → 2 ≤ k
    let arms := ∀ t k, s.learn.state = .armed t k → 2 ≤ k
    step s = step s.finishSet ∧
    (s.settled = true → watched → delays → arms → s.link.holdMs < 19 →
      step s = .next { s with
        siu := { s.siu with fed := false },
        link := { s.link with
          holdMs := s.link.holdMs + 1, delayMs := s.link.delayMs.map fun k => k - 1 },
        learn := match s.learn.state with
          | .armed t k => { s.learn with state := .armed t (k - 1) }
          | _ => s.learn }) ∧
    (∀ t, s.settled = true → s.siu.fed = false → exec .wordClockLoss s = .next t → step s = step t) ∧
    (∀ t k, s.settled = true → watched → s.link.delayMs = some k → k ≤ 1 →
      exec .powerUpDelayEnd s = .next t → step s = step t) ∧
    (∀ g k t, s.settled = true → watched → delays → s.learn.state = .armed g k → k ≤ 1 →
      exec .armTimerExpiry s = .next t → step s = step t) ∧
    (s.settled = true → watched → delays → arms → 19 ≤ s.link.holdMs →
      s.link.presPin = s.link.candidate →
      ∃ t, step s = .next t ∧ t.link.presence = s.link.candidate ∧ t.link.holdMs = 20)

/-- What a step does when no row waits (the model's choice, log entries 3 and 7): it always answers a next
state, and the queue stays empty. -/
def Obligations.EmptyQueueLetsAMillisecondPass : Prop :=
  (∀ s : State, s.pending = [] → ∃ t, step s = .next t ∧ t.pending = []) ∧
  Claims.EmptyQueueClocksAByte ∧ Claims.EmptyQueueIsAMillisecond

/-! ### Resets -/

/-- Power-on: the front end (R15, R34, R49). Nothing is asked of the state before it; the level on PRES
and the queue are the outside's (log entries 11 and 20). -/
def Claims.PowerOnFrontEnd : Prop :=
  ∀ s : State, ∃ t, exec .powerOn s = .next t ∧
    t.siu.choice = .internal ∧ t.siu.lock = false ∧ t.siu.fallback = false ∧ t.siu.rate = .hz48000 ∧
    t.siu.watch = false ∧ t.siu.fed = false ∧ t.siu.stamp = 0 ∧
    (∀ i, let u := t.siu.inputs.get i
      u.clip = 0 ∧ u.stuck = 0 ∧ u.clipRun = false ∧ u.rail.length = 0 ∧ u.episode = false) ∧
    (∀ x, let u := t.siu.aux x
      u.cadence = 0 ∧ u.lastValue = none ∧ u.published = none ∧ u.candidate = false ∧ u.hold = 0) ∧
    t.link.state = .absent ∧ t.link.supply = false ∧ t.link.presence = false ∧
    t.link.presPin = s.link.presPin ∧ t.link.candidate = s.link.presPin ∧ t.link.holdMs = 0 ∧
    t.link.delayMs = none ∧ t.link.progress = 0 ∧ t.link.windowEnded = false ∧
    t.link.expect = false ∧ t.link.width = 0 ∧ t.link.linkCounter = 0 ∧
    (∀ i, t.link.floors.get i = 0 ∧ t.link.dropped.get i = false ∧ t.cond.dc.get i = .held 0) ∧
    (∀ n, t.cond.sat.get n = 0) ∧ t.pending = s.pending

/-- Power-on: trackers, Profile Store and Learn Engine (R73, R99, R118, R131). -/
def Claims.PowerOnTrackersAndStore : Prop :=
  ∀ s : State, ∃ t, exec .powerOn s = .next t ∧
    (∀ n, let k := t.trackers.get n
      k.state = .muted ∧ k.note = none ∧ k.e = 0 ∧ k.articulation = 0 ∧ k.onsetStamp = 0 ∧
      k.onsetPeak = 0 ∧ k.bank = .a ∧ k.onsetTimer = none ∧ k.releaseTimer = none ∧
      k.levelTimer = none ∧ k.armed = false ∧ k.lastMark = none ∧ k.history = [] ∧ k.stall = 0 ∧
      k.curPeak = 0 ∧ k.prevPeak = 0 ∧ k.prevY = 0 ∧ k.noise = 0 ∧ k.reject = 0 ∧ k.ghost = 0 ∧
      k.copy = { windowLow := openNote n * 100 - 300, windowHigh := openNote n * 100 + 2700,
                 gateOn := 12, gateOff := 6, repick := 28, sens := 64, decay := 8,
                 releaseHold := 1440, tol := 8, onsetTimeout := 1920, jump := 90, floorUsed := 0,
                 gOn := 64, gOff := 24 }) ∧
    (∀ k n, t.store.profile k n =
      { windowLow := openNote n * 100 - 300, windowHigh := openNote n * 100 + 2700, gateOn := 12,
        gateOff := 6, repick := 28, sens := 64, decay := 8, releaseHold := 1440, bleedThinner := 0,
        bleedThicker := 0, override := none, revision := 0 }) ∧
    t.store.global = { na := 8, gains := ⟨0, 0, 0, 0, 0, 0, 0, 0⟩,
                       map := ⟨some .sin0, some .sin1, some .sin2, some .sin3, some .sin4, some .sin5⟩,
                       offset := 0, grade := .standard, revision := 0 } ∧
    (∀ n, t.store.requested.get n = .a) ∧ t.learn.state = .idle ∧
    t.learn.last = { code := .none, reason := none, target := none, abortPort := none, peaks := none,
                     measured := none, revision := none }

/-- Power-on: Stream Units and Port Interfaces (R155, R175, R187). No publication waits: what waited is
discarded (the model's choice, log entry 6). The level on CSx and the bytes to be clocked are the
outside's. -/
def Claims.PowerOnStreamsAndPorts : Prop :=
  ∀ s : State, ∃ t, exec .powerOn s = .next t ∧ ∀ p,
    (let k := t.streams.get p;
      k.state = .stopped ∧ k.filter = [] ∧ k.latch = none ∧ k.cue = none ∧ k.closed = [] ∧
      k.opened = none ∧ k.openPos = 0 ∧ k.nextSeq = 0 ∧ k.gap = 0 ∧ k.lost = 0 ∧ k.overruns = 0 ∧
      k.waiting = [] ∧ (∀ n, k.view.get n = { note := none, bend := 0, level := 0 }) ∧
      k.settings = { bendMode := .smooth, bendRange := 2, stepHyst := 20, bendStep := 16,
                     levelStep := 4, legatoPolicy := .legato, idleTimeout := 480, packetLimit := 16,
                     ringLength := 8 }) ∧
    (let q := t.ports.get p;
      q.txn = .idle ∧ q.mask = 0x03FF ∧ q.flags = Flag.resetDone.word ∧ q.attnLow = true ∧
      q.handed = none ∧ q.answer = none ∧ q.stored = [] ∧ q.byteCount = 0 ∧ q.sent = 0 ∧
      q.csLow = (s.ports.get p).csLow ∧ q.sdi = (s.ports.get p).sdi)

/-- Power-on brings every block to its power-on state (R15, R34, R49, R73, R99, R118, R131, R155, R175,
R187). -/
def Obligations.PowerOn : Prop :=
  Claims.PowerOnFrontEnd ∧ Claims.PowerOnTrackersAndStore ∧ Claims.PowerOnStreamsAndPorts

/-- The machine after reset is the part after power-on with PRES unasserted, both chip selects high
(log entry 11) and no command waiting, and the invariants of the part hold there. -/
def Obligations.ResetIsPowerOn : Prop :=
  exec .powerOn State.reset = .next State.reset ∧ State.reset.pending = [] ∧
    State.reset.settled = true ∧ State.reset.portsOk = true ∧ State.reset.recordsOk = true ∧
    State.reset.trackersOk = true ∧ State.reset.linkOk = true ∧ State.reset.streamsOk = true

/-- PART_RESET completes at a receiving port: every block takes its power-on state, but the clock
choice, the lock, the fallback indication, the active rate and the running watch stay; the port answers
OK with an empty body at once and the other port's transaction is over (R16, R186). Waiting publications
go, as at power-on, and waiting rows and bytes stay (the model's choice, log entries 6 and 20). -/
def Obligations.PartResetKeepsTheClock : Prop :=
  ∀ (p : Port) (s : State), s.listens p = true →
    ∃ t u, exec .powerOn s = .next u ∧ exec (.partReset p) s = .next t ∧
      (let clock := { u.siu with
        choice := s.siu.choice, lock := s.siu.lock, fallback := s.siu.fallback, rate := s.siu.rate,
        watch := s.siu.watch, fed := s.siu.fed };
      t = State.answers { u with siu := clock } p 0 .ok) ∧
      (t.ports.get p.other).txn = .idle ∧ (t.ports.get p.other).flags = Flag.resetDone.word ∧
      ∀ q, (t.streams.get q).waiting = []

/-! ### Chapter 1: the Sense Input Unit -/

/-- A conversion set is taken from the source in force only; the stamp counter adds 1 modulo 2^24, an
edge of the word clock feeds the watch, and the clock, the records and the queue stay as they are (R3,
R7, R9, R10, R11). Its handling has an odd phase, one above that of the gap before it, which the
publications it makes carry behind those that wait, and the phase is even again when it is finished
(R132; the phase is the model's own, log entry 6). -/
def Claims.ConversionSetAdvancesTheStamp : Prop :=
  ∀ (src : SampleSource) (pins : SetInputs) (order : SetOrder) (s : State),
    if src = .internalTick ↔ s.siu.choice = .internal then
      ∃ t, exec (.conversionSet src pins order) s = .next t ∧
        t.siu.stamp.toNat = (s.siu.stamp.toNat + 1) % 16777216 ∧
        t.siu.choice = s.siu.choice ∧ t.siu.lock = s.siu.lock ∧ t.siu.fallback = s.siu.fallback ∧
        t.siu.rate = s.siu.rate ∧ t.siu.watch = s.siu.watch ∧
        t.siu.fed = decide (s.siu.choice ≠ .internal) ∧ t.store = s.store ∧
        t.pending = s.pending ∧
        (s.settled = true → t.phase = s.phase + 1 ∧ t.phase % 2 = 1 ∧ t.finishSet.phase = t.phase + 1 ∧
          ∀ p, ∃ made, (t.streams.get p).waiting = (s.streams.get p).waiting ++ made ∧
            ∀ w ∈ made, w.phase = t.phase)
    else exec (.conversionSet src pins order) s = .next s

/-- At a conversion set an analog input's clip run, CLIP counter and rail run follow its raw code and its
gain code (R3, R4, R5); those of a digital input stay. -/
def Claims.ConversionSetCountsClipsAndRails : Prop :=
  ∀ (src : SampleSource) (pins : SetInputs) (order : SetOrder) (s t : State) (i : Sin),
    (src = .internalTick ↔ s.siu.choice = .internal) →
    exec (.conversionSet src pins order) s = .next t →
    let u := s.siu.inputs.get i
    let v := t.siu.inputs.get i
    let r := (pins.raw.get i).toInt
    let x := max (-32768) (min 32767 (r * 2 ^ s.store.global.gains.get i))
    if i.number < s.store.global.na then
      v.raw = pins.raw.get i ∧ v.clipRun = decide (x = -32768 ∨ x = 32767) ∧
      v.clip = (if (x = -32768 ∨ x = 32767) ∧ u.clipRun = false then u.clip + 1 else u.clip) ∧
      (if 32000 ≤ r ∨ r ≤ -32000 then
        v.rail.positive = decide (32000 ≤ r) ∧
        v.rail.length = (if u.rail.positive = decide (32000 ≤ r) ∧ 1 ≤ u.rail.length
          then min 4096 (u.rail.length + 1) else 1)
      else v.rail.length = 0)
    else v.raw = u.raw ∧ v.clipRun = u.clipRun ∧ v.clip = u.clip ∧ v.rail = u.rail

/-- A stuck episode of an analog input, with the long report it made, goes on while its rail run goes
on, and is over at the set that sets the run to 0 or restarts it; no episode begins at the set itself,
unless the link monitor's changes of the set come before some tracker's sample: then a run that has
reached 480 begins one, and one of 4096 makes its report. A digital input's stays (R5, R6, R94). That a
set otherwise leaves the beginning and the report to their rows, and the operand that says which comes
first, are the model's choice (log entries 1 and 5). -/
def Claims.ConversionSetEndsEpisodes : Prop :=
  ∀ (src : SampleSource) (pins : SetInputs) (order : SetOrder) (s t : State) (i : Sin),
    (src = .internalTick ↔ s.siu.choice = .internal) → s.settled = true →
    exec (.conversionSet src pins order) s = .next t →
    let u := s.siu.inputs.get i
    let v := t.siu.inputs.get i
    if i.number < s.store.global.na then
      let goesOn := decide (1 < v.rail.length)
      let taken := decide (order.monitorFirst ≠ 0)
      let begins := taken && decide (480 ≤ v.rail.length) && !(u.episode && goesOn)
      v.episode = ((u.episode && goesOn) || begins) ∧
      v.stuck = (if begins then u.stuck + 1 else u.stuck) ∧
      v.longReported = ((u.longReported && goesOn) || (taken && decide (4096 ≤ v.rail.length)))
    else v.episode = u.episode ∧ v.stuck = u.stuck ∧ v.longReported = u.longReported

/-- At a conversion set the cadence of an analog aux input adds 1; a digital one's hold count adds 1 up to 480
when the pin is at the candidate level, and else the level read is the candidate and the count 1; in no other
role does anything change (R2, R12, R13). -/
def Claims.ConversionSetCountsAuxInputs : Prop :=
  ∀ (src : SampleSource) (pins : SetInputs) (order : SetOrder) (s t : State) (x : AuxNo),
    (src = .internalTick ↔ s.siu.choice = .internal) → s.settled = true →
    exec (.conversionSet src pins order) s = .next t →
    let u := s.siu.aux x
    let high := match x with
      | .sin6 => pins.high6
      | .sin7 => pins.high7
    let analog := decide (x.sin.number < s.store.global.na)
    let mapped := StringNo.all.any fun n => s.store.global.map.get n == some x.sin
    t.siu.aux x =
      if analog && mapped then u
      else if analog then { u with cadence := u.cadence + 1 }
      else if high = u.candidate then { u with hold := min 480 (u.hold + 1) }
      else { u with candidate := high, hold := 1 }

/-- What a conversion set does to the Sense Input Unit (R3, R4, R5, R6, R7, R12, R13), its events being
rows of their own (the model's choice, log entries 1 and 5). -/
def Obligations.ConversionSetAtTheInputs : Prop :=
  Claims.ConversionSetAdvancesTheStamp ∧ Claims.ConversionSetCountsClipsAndRails ∧
  Claims.ConversionSetEndsEpisodes ∧ Claims.ConversionSetCountsAuxInputs

/-- A stuck episode begins when the rail run has reached 480 and none is in progress: STUCK rises by 1
and nothing else changes; otherwise the event changes nothing (R5, log entry 2). -/
def Claims.StuckEpisodeBegins : Prop :=
  ∀ (i : Sin) (s : State), exec (.stuckEpisodeBegin i) s = .next (
    let u := s.siu.inputs.get i
    if 480 ≤ u.rail.length ∧ u.episode = false then
      { s with siu := { s.siu with
          inputs := s.siu.inputs.set i { u with episode := true, stuck := u.stuck + 1 } } }
    else s)

/-- A stuck-long report is made once per episode, at length 4096 (R6). Where the link is not ACTIVE, or
the input is already dropped and no settle window ended at this set, it changes nothing else (R27; the
exception of the window end: the model's choice, log entry 16). -/
def Claims.StuckLongIgnored : Prop :=
  ∀ (i : Sin) (s : State), s.trackersQuiet = true →
    (s.link.state ≠ .active ∨ (s.link.dropped.get i = true ∧ s.link.windowEnded = false)) →
    exec (.stuckLong i) s = .next (
      let u := s.siu.inputs.get i
      if 4096 ≤ u.rail.length ∧ u.longReported = false then
        { s with siu := { s.siu with inputs := s.siu.inputs.set i { u with longReported := true } } }
      else s)

/-- A stuck-long report in ACTIVE drops the input: its dropped flag is set and its floor kept, no link
transition is made, FAULT is raised at both ports, the string mapped to it is muted, the width falls by 1,
CHANNEL_DROP, the END(MUTE) of a held note and WIDTH are published, and a learn of that string ends FAILED
LINK (R27, R28, R29, R127). -/
def Claims.StuckLongDropsTheChannel : Prop :=
  ∀ (i : Sin) (s : State), s.trackersQuiet = true → s.linkOk = true → s.trackersOk = true →
    s.link.state = .active → s.link.dropped.get i = false →
    4096 ≤ (s.siu.inputs.get i).rail.length → (s.siu.inputs.get i).longReported = false →
    ∃ t, exec (.stuckLong i) s = .next t ∧
      t.siu = { s.siu with
        inputs := s.siu.inputs.set i { s.siu.inputs.get i with longReported := true } } ∧
      t.link.dropped = s.link.dropped.set i true ∧ t.link.floors = s.link.floors ∧
      t.link.state = .active ∧ t.link.supply = s.link.supply ∧ t.link.expect = s.link.expect ∧
      t.link.linkCounter = s.link.linkCounter ∧ t.store = s.store ∧ t.cond = s.cond ∧
      (match s.store.global.stringOf i with
        | none =>
          t.trackers = s.trackers ∧ t.learn = s.learn ∧ t.link.width = s.link.width ∧
          ∀ p,
            (t.ports.get p) =
              { s.ports.get p with flags := (s.ports.get p).flags ||| Flag.fault.word } ∧
            (t.streams.get p).waiting = (s.streams.get p).waiting ++
              [⟨.link, s.siu.stamp, s.phase, .notice .channelDrop i.number 0⟩]
        | some n =>
          (t.trackers.get n).state = .muted ∧ (t.trackers.get n).note = none ∧
          (∀ m, m ≠ n → t.trackers.get m = s.trackers.get m) ∧ t.link.width = t.usableCount ∧
          t.usable n = false ∧ (s.recordsOk = true → t.link.width + 1 = s.link.width) ∧
          (match s.learn.state.open? with
            | none => t.learn = s.learn
            | some g =>
              if n = g.string then t.learn = { state := .idle, last :=
                { code := .failed, reason := some .link, target := some (g, s.siu.stamp),
                  abortPort := none, peaks := none, measured := none, revision := none } }
              else t.learn = s.learn) ∧
          ∀ p,
            (t.ports.get p) = { s.ports.get p with
              flags := (s.ports.get p).flags ||| Flag.fault.word |||
                (match s.learn.state.open? with
                  | none => 0
                  | some g => if n = g.string ∧ p = g.port then Flag.learnDone.word else 0) } ∧
            (t.streams.get p).waiting = (s.streams.get p).waiting ++
              [⟨.link, s.siu.stamp, s.phase, .notice .channelDrop i.number n.number⟩] ++
              ((s.trackers.get n).note.toList.map fun h => ⟨.tracker n, s.siu.stamp, s.phase,
                .track n (.ended .mute) h (levelOf (s.trackers.get n).e)⟩) ++
              [⟨.link, s.siu.stamp, s.phase, .notice .width t.link.width s.link.width⟩])

/-- With the window end first at one set, the report drops the input that the window end has dropped:
the flag stays set and the floor kept, CHANNEL_DROP is published and FAULT raised at both ports; its
string is not usable, so no tracker, no width and no learn changes, and WIDTH is not published (R27,
R28; what of R27's drop is left to change is the model's choice, log entry 16). -/
def Claims.StuckLongBehindTheWindowEnd : Prop :=
  ∀ (i : Sin) (s : State), s.trackersQuiet = true → s.linkOk = true → s.link.state = .active →
    s.link.dropped.get i = true → s.link.windowEnded = true →
    4096 ≤ (s.siu.inputs.get i).rail.length → (s.siu.inputs.get i).longReported = false →
    exec (.stuckLong i) s = .next ((State.publish { s with
      siu := { s.siu with
        inputs := s.siu.inputs.set i { s.siu.inputs.get i with longReported := true } } }
      .link (.notice .channelDrop i.number (match s.store.global.stringOf i with
        | none => 0
        | some n => n.number))).raiseBoth .fault)

/-- Stuck episodes and the stuck-long report (R5, R6, R27, R28, R127); behind a window end of the same
set the report is read as log entry 16 says (the model's choice). -/
def Obligations.StuckInputs : Prop :=
  Claims.StuckEpisodeBegins ∧ Claims.StuckLongIgnored ∧ Claims.StuckLongDropsTheChannel ∧
  Claims.StuckLongBehindTheWindowEnd

/-- The evaluation of an analog aux input whose cadence has reached 480: the cadence returns to 0, and
the value v = floor((r + 32768) / 512) is published when none was, when it differs by 2 or more, or
when it is 0 or 127 and differs; nothing else changes (R12). -/
def Claims.AuxEvaluation : Prop :=
  ∀ (x : AuxNo) (s : State), s.store.global.role x.sin = .analogAux → 480 ≤ (s.siu.aux x).cadence →
    (x = .sin7 → s.auxQuiet .sin6 = true) →
    let v := (((s.siu.inputs.get x.sin).raw.toInt + 32768) / 512).toNat
    v ≤ 127 ∧ exec (.auxEvaluation x) s = .next (
      if match (s.siu.aux x).lastValue with
          | none => true
          | some l => decide (l + 2 ≤ v ∨ v + 2 ≤ l ∨ ((v = 0 ∨ v = 127) ∧ v ≠ l)) then
        (s.updAux x fun u => { u with cadence := 0, lastValue := some v }).publish .siu (.aux x v)
      else s.updAux x fun u => { u with cadence := 0 })

/-- A digital aux input whose hold count stands at 480 publishes its candidate level when the published
level is absent or differs, and then holds it as published; nothing else changes; a row whose event is
not due changes nothing (R13, log entry 2). -/
def Claims.DigitalAuxPublishes : Prop :=
  ∀ (x : AuxNo) (s : State), s.store.global.role x.sin = .digitalAux →
    (x = .sin7 → s.auxQuiet .sin6 = true) →
    let u := s.siu.aux x
    exec (.digitalAuxPublish x) s = .next (
      if 480 ≤ u.hold ∧ u.published ≠ some u.candidate then
        (s.updAux x fun k => { k with published := some u.candidate }).publish .siu
          (.aux x (if u.candidate then 1 else 0))
      else s)

/-- SIN6 before SIN7 at one sample: an event of SIN7 that is due acts on the part in which SIN6's events have
been taken, which is what SIN6's two rows lead to and leaves none of SIN6's (R14). -/
def Claims.Sin6ComesBeforeSin7 : Prop :=
  ∀ s : State, let t := s.finishAux .sin6
    t.auxQuiet .sin6 = true ∧
    (∃ u, exec (.auxEvaluation .sin6) s = .next u ∧ exec (.digitalAuxPublish .sin6) u = .next t) ∧
    (s.auxDue .sin7 = true →
      exec (.auxEvaluation .sin7) s = exec (.auxEvaluation .sin7) t ∧ t.auxDue .sin7 = true) ∧
    (s.digitalDue .sin7 = true →
      exec (.digitalAuxPublish .sin7) s = exec (.digitalAuxPublish .sin7) t ∧ t.digitalDue .sin7 = true)

/-- The two aux events, and their order (R12, R13, R14). -/
def Obligations.AuxInputsPublish : Prop :=
  Claims.AuxEvaluation ∧ Claims.DigitalAuxPublishes ∧ Claims.Sin6ComesBeforeSin7

/-- SET_CLOCK is refused LOCKED with the present choice under the lock, INVALID for a choice that names
nothing, and else taken: choice and lock are set, and a word clock sets its rate, starts the watch and
clears every interval history (R9). -/
def Claims.SetClock : Prop :=
  ∀ (p : Port) (c : Byte) (s : State), s.ready p = true → exec (.setClock p c) s = .next (
    if s.siu.lock then s.awaits p 1 .locked [BitVec.ofNat 8 s.siu.choice.code]
    else if c = 0 then
      State.awaits { s with siu := { s.siu with choice := .internal, lock := true } } p 1 .ok [0]
    else if c = 1 ∨ c = 2 then
      State.awaits { s with
        siu := { s.siu with choice := if c = 1 then .word48 else .word44, lock := true,
                            rate := if c = 1 then .hz48000 else .hz44100, watch := true,
                            fed := true },
        trackers := Six.of fun n => { s.trackers.get n with clearHistory := true } } p 1 .ok [c]
    else s.awaits p 1 .invalid [])

/-- The loss of the word clock: INTERNAL at 48,000 with the fallback indication and the lock set, the
histories cleared from the next sample, CLOCK_LOSS published with the lost choice, FAULT raised at both
ports; without a running watch there is no loss (R10, R11, log entry 2). R10 asks for 1 ms without an
edge; the row is the end of that millisecond and acts whatever the mark fed holds (the model's choice,
log entry 4). -/
def Claims.WordClockLoss : Prop :=
  ∀ s : State, s.settled = true → exec .wordClockLoss s = .next (
    if s.siu.watch then
      (State.publish { s with
        siu := { s.siu with choice := .internal, rate := .hz48000, fallback := true, lock := true,
                            watch := false, fed := false },
        trackers := Six.of fun n => { s.trackers.get n with clearHistory := true } }
        .siu (.notice .clockLoss s.siu.choice.code 0)).raiseBoth .fault
    else s)

/-- SET_CLOCK, and the loss of the word clock (R9, R10, R11); the row of the loss carries its
millisecond (the model's choice, log entry 4). -/
def Obligations.ClockChoiceAndLoss : Prop :=
  Claims.SetClock ∧ Claims.WordClockLoss

/-! ### Chapter 2: the Pickup Link Monitor -/

/-- A level read on PRES that differs from the candidate becomes it and restarts the hold time (R18). -/
def Claims.PresChange : Prop :=
  ∀ (level : Bool) (s : State), s.settled = true → exec (.presChange level) s = .next
    { s with link :=
      if level = s.link.candidate then { s.link with presPin := level }
      else { s.link with presPin := level, candidate := level, holdMs := 0 } }

/-- Presence becomes true, when the level read and the candidate are true and the presence is not. In
ABSENT the link goes to POWERING with the supply on and the 50 ms delay started, and LINK is raised at
both ports; in any other state only the presence changes; no notice is published (R18, R19). -/
def Claims.PresenceBecomesTrue : Prop :=
  ∀ s : State, s.settled = true → s.link.presPin = true → s.link.candidate = true →
    s.link.presence = false → exec .presenceBecomesTrue s = .next (
      if s.link.state = .absent then
        State.raiseBoth { s with link := { s.link with
          presence := true, holdMs := 20, state := .powering, supply := true, delayMs := some 50,
          progress := 0 } } .link
      else { s with link := { s.link with presence := true, holdMs := 20 } })

/-- Presence becomes false outside ACTIVE: POWERING, SETTLING and OVERLOAD go to ABSENT with the supply
off, the delay or window abandoned, LINK raised and LINK_STATE(ABSENT) published; in DISABLED and ABSENT
only the presence changes. Floors and dropped flags stay (R23, R24). -/
def Claims.PresenceBecomesFalse : Prop :=
  ∀ s : State, s.settled = true → s.link.presPin = false → s.link.candidate = false →
    s.link.presence = true → s.link.state ≠ .active → exec .presenceBecomesFalse s = .next (
      if s.link.state = .disabled ∨ s.link.state = .absent then
        { s with link := { s.link with presence := false, holdMs := 20 } }
      else
        (State.raiseBoth { s with link := { s.link with
          presence := false, holdMs := 20, state := .absent, supply := false, delayMs := none,
          progress := 0 } } .link).publish .link (.notice .linkState 1 s.link.state.code))

/-- Presence becomes false in ACTIVE: the link leaves ACTIVE for ABSENT with the supply off and
LINK_STATE published; with EXPECT clear it is a surprise loss, with SURPRISE_LOSS of the width behind
LINK_STATE, FAULT at both ports and the LINK counter one higher (R24, R25). -/
def Claims.SurpriseLoss : Prop :=
  ∀ s : State, s.settled = true → s.link.presPin = false → s.link.candidate = false →
    s.link.presence = true → s.link.state = .active →
    ∃ t, exec .presenceBecomesFalse s = .next t ∧
      t.link = { s.leaveActive.link with
        state := .absent, supply := false, delayMs := none, progress := 0, presence := false,
        holdMs := 20,
        linkCounter := if s.link.expect then s.link.linkCounter else s.link.linkCounter + 1 } ∧
      t.trackers = s.leaveActive.trackers ∧ t.learn = s.leaveActive.learn ∧ t.siu = s.siu ∧
      t.cond = s.cond ∧ t.store = s.store ∧
      (∀ p, Flag.link.isSet (t.ports.get p).flags = true ∧
        Flag.fault.isSet (t.ports.get p).flags =
          (Flag.fault.isSet (s.ports.get p).flags || !s.link.expect)) ∧
      ∀ p, (t.streams.get p).waiting = (s.leaveActive.streams.get p).waiting ++
        [⟨.link, s.siu.stamp, s.phase, .notice .linkState 1 4⟩] ++
        (if s.link.expect then []
          else [⟨.link, s.siu.stamp, s.phase, .notice .surpriseLoss s.link.width 0⟩])

/-- The level on PRES and the debounced presence (R18, R19, R24). R18 asks for 20 ms of the candidate; the two
presence rows are the end of those 20 ms and act whatever the model's own hold time stands at (the model's
choice, log entry 4). -/
def Obligations.PresenceEvents : Prop :=
  Claims.PresChange ∧ Claims.PresenceBecomesTrue ∧ Claims.PresenceBecomesFalse ∧ Claims.SurpriseLoss

/-- Leaving ACTIVE: EXPECT clears and the width becomes 0, nothing else of the link changes; every
tracker is in MUTED, one that leaves another state with no note, no timers and an envelope of 0, having
published END(LINK) where it held a note, and one already there as it was; a learn whose commit is not
handed ends FAILED LINK (R17, R25, R28, R78, R127). -/
def Obligations.LeavingActive : Prop :=
  ∀ s : State,
    s.leaveActive.link = { s.link with expect := false, width := 0 } ∧
    s.leaveActive.siu = s.siu ∧ s.leaveActive.cond = s.cond ∧ s.leaveActive.store = s.store ∧
    (∀ n, let t := s.trackers.get n
      let u := s.leaveActive.trackers.get n
      u.state = .muted ∧ u.bank = t.bank ∧ u.copy = t.copy ∧ u.articulation = t.articulation ∧
      u.onsetStamp = t.onsetStamp ∧ u.onsetPeak = t.onsetPeak ∧ u.noise = t.noise ∧
      u.reject = t.reject ∧ u.ghost = t.ghost ∧ (t.state = .muted → u = t) ∧
      (t.state ≠ .muted → u.note = none ∧ u.e = 0 ∧ u.onsetTimer = none ∧ u.releaseTimer = none ∧
        u.levelTimer = none ∧ u.clearHistory = true ∧ u.clearDetector = true)) ∧
    (∀ p, (s.leaveActive.streams.get p).waiting = (s.streams.get p).waiting ++
      StringNo.all.filterMap fun n =>
        if (s.trackers.get n).state = .muted then none
        else (s.trackers.get n).note.map fun h => ⟨.tracker n, s.siu.stamp, s.phase,
          .track n (.ended .link) h (levelOf (s.trackers.get n).e)⟩) ∧
    (match s.learn.state.open? with
      | none => s.leaveActive.learn = s.learn ∧ s.leaveActive.ports = s.ports
      | some t => s.leaveActive.learn.state = .idle ∧
          s.leaveActive.learn.last =
            { code := .failed, reason := some .link, target := some (t, s.siu.stamp),
              abortPort := none, peaks := none, measured := none, revision := none } ∧
          s.leaveActive.ports = (s.raise t.port .learnDone).ports)

/-- The power-up delay ends: POWERING goes to SETTLING with a window that has measured nothing, and LINK
is raised at both ports without a notice (R20, R21). In any other state no delay runs and nothing
happens (log entry 2). The row is the end of the 50 ms of R20 and acts whatever is left of the model's own
count (the model's choice, log entry 4). -/
def Claims.PowerUpDelayEnds : Prop :=
  ∀ s : State, s.settled = true → exec .powerUpDelayEnd s = .next (
    if s.link.state = .powering then
      State.raiseBoth { s with link := { s.link with
        state := .settling, supply := true, delayMs := none, progress := 0,
        windowMax := ⟨0, 0, 0, 0, 0, 0, 0, 0⟩,
        stuckSeen := ⟨false, false, false, false, false, false, false, false⟩ } } .link
    else s)

/-- An over-current report while the supply is on takes the link to OVERLOAD with the supply off, LINK
and FAULT at both ports, and OVERLOAD before LINK_STATE; the LINK counter does not rise. With the supply
off it has no effect (R26). From ACTIVE the strings lose usability first (R17). -/
def Claims.OverCurrent : Prop :=
  ∀ s : State, s.settled = true → exec .overCurrent s = .next (
    if s.link.state = .powering ∨ s.link.state = .settling ∨ s.link.state = .active then
      let u := if s.link.state = .active then s.leaveActive else s
      let w := (State.raiseBoth { u with link := { u.link with
        state := .overload, supply := false, delayMs := none, progress := 0 } } .link)
      ((w.publish .link (.notice .overload s.link.state.code 0)).publish .link
        (.notice .linkState 5 s.link.state.code)).raiseBoth .fault
    else s)

/-- The end of the power-up delay, and an over-current report (R20, R26). -/
def Obligations.PowerUpAndOverCurrent : Prop :=
  Claims.PowerUpDelayEnds ∧ Claims.OverCurrent

/-- The settle window ends at a progress of 8192: an analog input takes its window maximum as floor and
is dropped above 8192 or with a stuck-seen mark, a digital one has floor 0 and is not dropped; the link
is ACTIVE with LINK raised, the width is the number of usable strings, a usable string's tracker leaves
MUTED for SILENT, with BANK_ADOPTED where a bank is pending, and behind these notices come LINK_STATE
and WIDTH; nothing else of the streams changes (R22, R28, R29, R79, R91). An accumulator is to be loaded
where a dropped flag is cleared on a string's input (R46); the others stay. -/
def Claims.SettleWindowEndsInActive : Prop :=
  ∀ s : State, s.trackersQuiet = true → s.link.state = .settling → 8192 ≤ s.link.progress →
    ∃ t, exec .settleWindowEnd s = .next t ∧ t.link.state = .active ∧ t.link.supply = true ∧
      t.link.progress = 0 ∧ t.link.windowEnded = true ∧ t.link.width = t.usableCount ∧
      t.link.expect = s.link.expect ∧ t.link.linkCounter = s.link.linkCounter ∧ t.store = s.store ∧
      t.siu = s.siu ∧ t.learn = s.learn ∧
      (∀ i, let analog := decide (i.number < s.store.global.na)
        t.link.floors.get i = (if analog then s.link.windowMax.get i else 0) ∧
        t.link.dropped.get i =
          (analog && (decide (8192 < s.link.windowMax.get i) || s.link.stuckSeen.get i))) ∧
      t.cond.sat = s.cond.sat ∧
      (∀ i, t.cond.dc.get i =
        if s.link.dropped.get i = true ∧ t.link.dropped.get i = false ∧
            s.store.global.stringOf i ≠ none ∧ s.cond.dc.get i ≠ .absent then .toLoad
        else s.cond.dc.get i) ∧
      (∀ n, t.trackers.get n =
        if t.usable n = true ∧ (s.trackers.get n).state = .muted then
          t.silentEntry n (s.trackers.get n)
        else s.trackers.get n) ∧
      ∀ p, t.ports.get p = { s.ports.get p with flags := (s.ports.get p).flags ||| Flag.link.word } ∧
        t.streams.get p = { s.streams.get p with
          waiting := (s.streams.get p).waiting ++
            (StringNo.all.filterMap fun n =>
              let k := s.trackers.get n
              if t.usable n = true ∧ k.state = .muted ∧ k.bank ≠ s.store.requested.get n then
                some ⟨.tracker n, s.siu.stamp, s.phase,
                  .notice .bankAdopted n.number (s.store.requested.get n).code⟩
              else none) ++
            [⟨.link, s.siu.stamp, s.phase, .notice .linkState 4 3⟩,
             ⟨.link, s.siu.stamp, s.phase, .notice .width t.link.width s.link.width⟩] }

/-- A conversion set in SETTLING: each analog input's window maximum becomes the larger of itself and
|d|, capped at 32767, its stuck-seen mark is set in a stuck episode, the progress rises by 1, and
nothing else of the link changes; outside SETTLING nothing is measured (R21). A set whose own handling
takes the window end or a drop before some tracker's sample is not meant (R94). -/
def Claims.ConversionSetMeasuresTheWindow : Prop :=
  ∀ (src : SampleSource) (pins : SetInputs) (order : SetOrder) (s t : State),
    (src = .internalTick ↔ s.siu.choice = .internal) → s.settled = true → s.recordsOk = true →
    order.monitorFirst = 0 ∨ (s.link.state = .settling ∧ s.link.progress + 1 < 8192) →
    exec (.conversionSet src pins order) s = .next t →
    let x := fun i => max (-32768)
      (min 32767 ((pins.raw.get i).toInt * 2 ^ s.store.global.gains.get i))
    let d := fun i => match s.cond.dc.get i with
      | .held m => (x i - m / 1024).natAbs
      | _ => (0 : Nat)
    let analog := fun i : Sin => decide (i.number < s.store.global.na)
    t.link = if s.link.state = .settling then
        { s.link with
          windowEnded := false, progress := s.link.progress + 1,
          windowMax := Eight.of fun i =>
            if analog i then min 32767 (max (s.link.windowMax.get i) (d i)) else s.link.windowMax.get i,
          stuckSeen := Eight.of fun i => s.link.stuckSeen.get i ||
            (analog i && decide (480 ≤ (t.siu.inputs.get i).rail.length)) }
      else { s.link with windowEnded := false }

/-- The settle window, from the sets it measures to its end (R21, R22, R28, R29, R46, R79). -/
def Obligations.SettleWindowEnds : Prop :=
  Claims.SettleWindowEndsInActive ∧ Claims.ConversionSetMeasuresTheWindow

/-- RETRAIN: ACTIVE and SETTLING begin a new window, OVERLOAD goes to POWERING, and DISABLED, ABSENT and
POWERING refuse it with STATE (R31). In SETTLING no LINK flag is raised; floors and dropped flags stay. -/
def Claims.Retrain : Prop :=
  ∀ (p : Port) (s : State), s.ready p = true →
    let window := fun (k : Link) (supply : Bool) (delay : Option Nat) =>
      { k with
        state := .settling, supply := supply, delayMs := delay, progress := 0,
        windowMax := ⟨0, 0, 0, 0, 0, 0, 0, 0⟩,
        stuckSeen := ⟨false, false, false, false, false, false, false, false⟩ }
    let powering :=
      { s.link with state := .powering, supply := true, delayMs := some 50, progress := 0 }
    exec (.retrain p) s = .next (
      match s.link.state with
      | .active => (State.raiseBoth { s.leaveActive with
          link := window s.leaveActive.link true none } .link).awaits p 1 .ok [3]
      | .settling => State.awaits { s with link := window s.link s.link.supply s.link.delayMs } p 1 .ok [3]
      | .overload => (State.raiseBoth { s with link := powering } .link).awaits p 1 .ok [2]
      | .disabled => s.awaits p 1 .state [0]
      | .absent => s.awaits p 1 .state [1]
      | .powering => s.awaits p 1 .state [2])

/-- DISABLE is taken in every state but DISABLED and leads there with the supply off and LINK_STATE
published; ENABLE is taken in DISABLED alone and leads to POWERING when the presence is true, else to
ABSENT with LINK_STATE published (R32). Neither raises FAULT. -/
def Claims.DisableEnable : Prop :=
  ∀ (p : Port) (s : State), s.ready p = true →
    (exec (.disable p) s = .next (
      if s.link.state = .disabled then s.awaits p 1 .state [0]
      else
        let u := if s.link.state = .active then s.leaveActive else s
        ((State.raiseBoth { u with link := { u.link with
          state := .disabled, supply := false, delayMs := none, progress := 0 } } .link).publish .link
            (.notice .linkState 0 s.link.state.code)).awaits p 1 .ok [0])) ∧
    exec (.enable p) s = .next (
      if s.link.state ≠ .disabled then s.awaits p 1 .state [BitVec.ofNat 8 s.link.state.code]
      else if s.link.presence then
        (State.raiseBoth { s with link := { s.link with
          state := .powering, supply := true, delayMs := some 50, progress := 0 } } .link).awaits
            p 1 .ok [2]
      else
        ((State.raiseBoth { s with link := { s.link with
          state := .absent, supply := false, delayMs := none, progress := 0 } } .link).publish .link
            (.notice .linkState 1 0)).awaits p 1 .ok [1])

/-- EXPECT_REMOVAL sets EXPECT in ACTIVE and is refused STATE elsewhere (R25). -/
def Claims.ExpectRemoval : Prop :=
  ∀ (p : Port) (s : State), s.ready p = true → exec (.expectRemoval p) s = .next (
    if s.link.state = .active then
      State.awaits { s with link := { s.link with expect := true } } p 1 .ok [4]
    else s.awaits p 1 .state [BitVec.ofNat 8 s.link.state.code])

/-- The four link commands (R25, R31, R32). -/
def Obligations.LinkCommands : Prop :=
  Claims.Retrain ∧ Claims.DisableEnable ∧ Claims.ExpectRemoval

/-- LINK_CONTROL with subcommand 0, 1, 2 or 3 is RETRAIN, DISABLE, ENABLE or EXPECT_REMOVAL; any other
subcommand is refused INVALID with an empty body and changes nothing (R30). That such a frame comes under the
row UNKNOWN_COMMAND is the model's choice (log entry 12). -/
def Obligations.LinkControlSubcommands : Prop :=
  ∀ (p : Port) (b : Byte),
    (b = 0 → frameRow p 0x40 [b] = .retrain p) ∧ (b = 1 → frameRow p 0x40 [b] = .disable p) ∧
    (b = 2 → frameRow p 0x40 [b] = .enable p) ∧ (b = 3 → frameRow p 0x40 [b] = .expectRemoval p) ∧
    (4 ≤ b.toNat → frameRow p 0x40 [b] = .unknownCommand p 0x40 [b] ∧
      ∀ s : State, s.ready p = true →
        exec (.unknownCommand p 0x40 [b]) s = .next (s.awaits p 1 .invalid []))

/-! ### Chapter 3: the Conditioner -/

/-- At a conversion set each accumulator takes the DC-removed sample d = x - floor(M / 1024); one to be
loaded becomes 1024 x; a digital input has none (R36, R37). A set that takes the end of a settle window
before some tracker's sample is not meant: it may mark an accumulator to be loaded (R46, R94). -/
def Claims.DcRemoval : Prop :=
  ∀ (src : SampleSource) (pins : SetInputs) (order : SetOrder) (s t : State) (i : Sin),
    (src = .internalTick ↔ s.siu.choice = .internal) → s.settled = true →
    order.monitorFirst = 0 ∨ (s.link.state = .settling → s.link.progress + 1 < 8192) →
    exec (.conversionSet src pins order) s = .next t →
    let x := max (-32768) (min 32767 ((pins.raw.get i).toInt * 2 ^ s.store.global.gains.get i))
    t.cond.dc.get i =
      if i.number < s.store.global.na then
        match s.cond.dc.get i with
        | .held m => .held (m + (x - m / 1024))
        | .toLoad => .held (1024 * x)
        | .absent => .absent
      else s.cond.dc.get i

/-- The conditioned sample of a string and its SAT counter: acc = 32768 d - b_t d(thicker) -
b_k d(thinner), formed exactly with the coefficients of the neighbours' banks in effect and a
contribution of 0 where there is no conditioned neighbour; y is acc / 32768 rounded half up and
saturated, and each saturated sample of a conditioned string counts (R38, R39, R40, R41). The tracker
keeps y as its previous sample (R50). -/
def Claims.ConditionedSample : Prop :=
  ∀ (src : SampleSource) (pins : SetInputs) (order : SetOrder) (s t : State) (n : StringNo),
    (src = .internalTick ↔ s.siu.choice = .internal) → s.settled = true → s.recordsOk = true →
    exec (.conversionSet src pins order) s = .next t →
    let x := fun i => max (-32768)
      (min 32767 ((pins.raw.get i).toInt * 2 ^ s.store.global.gains.get i))
    let d := fun i => match s.cond.dc.get i with
      | .held m => x i - m / 1024
      | _ => 0
    let own := fun k => match s.store.global.map.get k with
      | none => (none : Option Int)
      | some i => if s.link.dropped.get i then none else some (d i)
    let record := fun k => s.store.profile (s.trackers.get k).bank k
    let thicker := match n.thicker? with
      | none => (0 : Int)
      | some k => (record k).bleedThinner * (own k).getD 0
    let thinner := match n.thinner? with
      | none => (0 : Int)
      | some k => (record k).bleedThicker * (own k).getD 0
    match own n with
    | none => t.cond.sat.get n = s.cond.sat.get n ∧ (t.trackers.get n).prevY = 0
    | some dn =>
      let v := (32768 * dn - thicker - thinner + 16384) / 32768
      t.cond.sat.get n =
        (if v < -32768 ∨ 32767 < v then s.cond.sat.get n + 1 else s.cond.sat.get n) ∧
      (t.trackers.get n).prevY = max (-32768) (min 32767 v)

/-- What a conversion set does to the Conditioner (R36 to R41). -/
def Obligations.Conditioning : Prop :=
  Claims.DcRemoval ∧ Claims.ConditionedSample

/-! ### Chapter 4: period measurement and pitch -/

/-- At a conversion set whose trackers handle their samples before any change of the link monitor, each
tracker's context is what its sample of the next stamp makes of it, whatever the other strings do (R50,
R77, R94). -/
def Claims.TrackersSampleFirst : Prop :=
  ∀ (src : SampleSource) (pins : SetInputs) (windowFirst captureFirst : Bool) (s : State) (n : StringNo),
    (src = .internalTick ↔ s.siu.choice = .internal) → s.settled = true →
    ∃ t y, exec (.conversionSet src pins ⟨0, windowFirst, captureFirst⟩) s = .next t ∧
      (t.trackers.get n).prevY = y ∧
      t.trackers.get n =
        (State.trackerSample { s with siu := { s.siu with stamp := s.siu.stamp + 1 } } n y).trackers.get n

/-- At a conversion set whose order operand names trackers in its mask, the trackers that are not in the
mask sample first, then the link monitor makes its changes of the set, then the trackers of the mask
sample in the part as it then is; what the set does to inputs, accumulators and records is what it does
in the order above (R94; the operand: the model's choice, log entry 5). -/
def Claims.TrackersSampleInEitherOrder : Prop :=
  ∀ (src : SampleSource) (pins : SetInputs) (order : SetOrder) (s : State),
    (src = .internalTick ↔ s.siu.choice = .internal) → s.settled = true → order.monitorFirst ≠ 0 →
    ∃ (u m t : State) (y : StringNo → Int),
      exec (.conversionSet src pins { order with monitorFirst := 0 }) s = .next u ∧
      exec (.conversionSet src pins order) s = .next t ∧
      m.siu = u.siu ∧ m.link = u.link ∧ m.cond = u.cond ∧ m.store = u.store ∧
      let k := m.monitorChanges order.windowFirst
      t.siu = k.siu ∧ t.link = k.link ∧ t.cond = k.cond ∧
      ∀ n, (t.trackers.get n).prevY = y n ∧
        if order.monitorFirst.getLsbD (n.number - 1) then
          m.trackers.get n = s.trackers.get n ∧
          t.trackers.get n = (k.trackerSample n (y n)).trackers.get n
        else
          m.trackers.get n = u.trackers.get n ∧ t.trackers.get n = k.trackers.get n

/-- The link monitor's changes of a set are the rows of the set: the ends of the trackers' counts, then
the episodes and reports of the inputs and the window end, in either order (R27, R77, R94; strings 1 to
6 and inputs 0 to 7 in turn are the model's choice, log entry 1). -/
def Claims.MonitorChangesAreRows : Prop :=
  ∀ (s : State) (windowFirst : Bool),
    let counts := StringNo.all.flatMap fun n =>
      [Instr.stall n, .onsetTimeout n, .releaseTimerEnd n, .levelTimer n]
    let reports := Sin.all.flatMap fun i => [Instr.stuckEpisodeBegin i, .stuckLong i]
    let rows := counts ++
      if windowFirst then .settleWindowEnd :: reports else reports ++ [.settleWindowEnd]
    rows.foldl (fun r c => match r with
      | .next t => exec c t
      | stop => stop) (.next s) = (.next (s.monitorChanges windowFirst) : Result)

/-- A conversion set gives each tracker its own sample, in every order that R94 leaves open (R50, R77,
R94); the order operand and the order of the set's events are the model's choice (log entries 1 and 5).
-/
def Obligations.ConversionSetSamplesEveryTracker : Prop :=
  Claims.TrackersSampleFirst ∧ Claims.TrackersSampleInEitherOrder ∧ Claims.MonitorChangesAreRows

/-- The measuring stages of one sample: envelope (R51), period peaks (R57), the mark test, its time and
its handling against the last mark (R55, R56, R58), the history (R59), the stall count (R60), the arm test
(R54), and the vote, which is made on the history as it then stands at a sample at which an interval of
128..20000 entered it and at no other; its outcome is what the sample accepts and counts (R64, R65, R70).
Nothing of the note, the timers, the bank or the working copy changes. -/
def Obligations.MeasuringStages : Prop :=
  ∀ (t : Tracker) (rate : Rate) (offset : Int) (stamp : Stamp) (y : Int),
    let r := t.measure rate offset stamp y
    let e := if t.e < y.natAbs then min 32767 y.natAbs else t.e - t.e / 2 ^ t.copy.decay
    let peak := min 32767 (max t.curPeak y.natAbs)
    let found := t.armed = true ∧ t.prevY < 0 ∧ 0 ≤ y
    let mark : MarkTime := BitVec.ofNat 28
      (16 * (stamp - 1).toNat + min 15 ((16 * -t.prevY) / (y - t.prevY)).toNat)
    let interval := t.lastMark.map fun l => (mark - l).toNat
    let kept := found ∧ ∀ i, interval = some i → 128 ≤ i
    let entered := decide found && interval.any fun i => decide (128 ≤ i ∧ i ≤ 20000)
    let vote := Tracker.stageVote { t with history := r.tracker.history } rate offset entered
    r.accepted = vote.2 ∧ r.tracker.noise = vote.1.noise ∧ r.tracker.reject = vote.1.reject ∧
    (entered = false → r.accepted = none ∧ r.tracker.noise = t.noise ∧ r.tracker.reject = t.reject) ∧
    r.tracker.e = e ∧ r.tracker.prevY = y ∧
    (r.tracker.armed = true ↔ y ≤ -((e * 6 / 16 : Nat) : Int) ∨ (t.armed = true ∧ ¬ found)) ∧
    (kept → r.kept = some (peak, t.prevPeak) ∧ r.tracker.lastMark = some mark ∧
      r.tracker.stall = 0 ∧ r.tracker.prevPeak = peak ∧ r.tracker.curPeak = 0 ∧
      r.tracker.history = match interval with
        | none => t.history
        | some i => if 20000 < i then []
          else (if t.history.length < 3 then t.history else t.history.tail) ++ [i]) ∧
    (¬ kept → r.kept = none ∧ r.accepted = none ∧ r.tracker.lastMark = t.lastMark ∧
      r.tracker.stall = (if t.lastMark.isSome then t.stall + 1 else t.stall) ∧
      r.tracker.prevPeak = t.prevPeak ∧ r.tracker.curPeak = peak ∧ r.tracker.history = t.history ∧
      r.tracker.noise = t.noise ∧ r.tracker.reject = t.reject) ∧
    r.tracker.clearE = t.clearE ∧ r.tracker.clearHistory = t.clearHistory ∧
    r.tracker.clearDetector = t.clearDetector ∧
    r.tracker.state = t.state ∧ r.tracker.note = t.note ∧ r.tracker.copy = t.copy ∧
    r.tracker.bank = t.bank ∧ r.tracker.articulation = t.articulation ∧
    r.tracker.onsetStamp = t.onsetStamp ∧ r.tracker.onsetPeak = t.onsetPeak ∧
    r.tracker.onsetTimer = t.onsetTimer ∧ r.tracker.releaseTimer = t.releaseTimer ∧
    r.tracker.levelTimer = t.levelTimer ∧ r.tracker.ghost = t.ghost

/-- Agreement of intervals: |a - b| ≤ floor(max(a, b) tol / 256), symmetric, true of an interval and
itself, and false of two intervals a semitone or more apart for a tol of 14 or less; the tolerances of
the grades and what they allow at 6982 (R62). -/
def Obligations.IntervalAgreement : Prop :=
  (∀ tol a c : Nat, agree tol a c = decide (max a c - min a c ≤ max a c * tol / 256)) ∧
  (∀ tol a c : Nat, agree tol a c = agree tol c a) ∧ (∀ tol a : Nat, agree tol a a = true) ∧
  (∀ tol a c : Nat, tol ≤ 14 → 0 < a → 2 * c ^ 12 ≤ a ^ 12 → agree tol a c = false) ∧
  Grade.fast.tol = 12 ∧ Grade.standard.tol = 8 ∧ Grade.robust.tol = 5 ∧
  (∀ c : Nat, c ≤ 6982 → (agree 12 6982 c = decide (6982 - c ≤ 327)) ∧
    (agree 8 6982 c = decide (6982 - c ≤ 218)) ∧ (agree 5 6982 c = decide (6982 - c ≤ 136)))

/-- A vote: CLEAN when the two newest intervals agree, else SPLIT when the oldest of three agrees with
the newest, else NONE; NOISE counts a SPLIT, REJECT a NONE and a pitch outside the window, and a history
of one interval or none is not voted (R63, R65, R69). No vote is made in MUTED or SILENT, nor without a
new interval (R64). -/
def Obligations.Voting : Prop :=
  ∀ (t : Tracker) (rate : Rate) (offset : Int),
    (∀ entered, entered = false ∨ t.state = .muted ∨ t.state = .silent ∨ t.history.length ≤ 1 →
      t.stageVote rate offset entered = (t, none)) ∧
    (t.state ≠ .muted → t.state ≠ .silent →
      ∀ (oldest : Option Nat) (i2 i3 : Nat), t.history = oldest.toList ++ [i2, i3] →
      let clean := agree t.copy.tol i3 i2 = true
      let split := ¬ clean ∧ ∃ i1, oldest = some i1 ∧ agree t.copy.tol i1 i3 = true
      (clean → t.stageVote rate offset true =
        let v := pitchOf rate offset ((i2 + i3 + 1) / 2)
        if t.copy.windowLow ≤ v ∧ v ≤ t.copy.windowHigh then (t, some v)
        else ({ t with reject := t.reject + 1 }, none)) ∧
      (split → t.stageVote rate offset true =
        let v := pitchOf rate offset ((oldest.getD 0 + i3 + 1) / 2)
        if t.copy.windowLow ≤ v ∧ v ≤ t.copy.windowHigh then
          ({ t with noise := t.noise + 1 }, some v)
        else ({ t with noise := t.noise + 1, reject := t.reject + 1 }, none)) ∧
      (¬ clean → ¬ split →
        t.stageVote rate offset true = ({ t with reject := t.reject + 1 }, none)))

/-- The pitch of a candidate period is exactly the nearest integer to 6900 + 1200 log2(16 Fs / (440 P)),
less the concert offset; the true value is never halfway between two integers, and a longer period
never gives a higher pitch (R66, R67). -/
def Obligations.PitchIsExactlyRounded : Prop :=
  ∀ (rate : Rate) (offset : Int) (p : Nat), 128 ≤ p → p ≤ 20000 →
    let fs : ℝ := match rate with
      | .hz48000 => 48000
      | .hz44100 => 44100
    let v : ℝ := 6900 + 1200 * Real.logb 2 (16 * fs / (440 * (p : ℝ)))
    pitchOf rate offset p = ⌊v + 1 / 2⌋ - offset ∧ (∀ z : ℤ, v ≠ (z : ℝ) + 1 / 2) ∧
    ∀ q : Nat, p ≤ q → q ≤ 20000 → pitchOf rate offset q ≤ pitchOf rate offset p

/-! ### Chapter 5: the String Tracker -/

/-- The working copy and its gates: G_on is the larger of 64 and floor(floor gate_on / 4), G_off is
floor(G_on gate_off / 16); tol, onset_timeout and jump come from the override part where it holds them and
else from the grade; for a legal record G_off lies in 8..G_on - 1 (R75, R76, R101). -/
def Obligations.WorkingCopyAndGates : Prop :=
  ∀ (r : Profile) (g : Grade) (floorUsed : Nat),
    let c := copyOf r g floorUsed
    let held := fun (f : Override → Option Nat) (d : Nat) =>
      match r.override with
      | none => d
      | some o => (f o).getD d
    c.windowLow = r.windowLow ∧ c.windowHigh = r.windowHigh ∧ c.gateOn = r.gateOn ∧
    c.gateOff = r.gateOff ∧ c.repick = r.repick ∧ c.sens = r.sens ∧ c.decay = r.decay ∧
    c.releaseHold = r.releaseHold ∧ c.floorUsed = floorUsed ∧
    c.gOn = max 64 (floorUsed * r.gateOn / 4) ∧ c.gOff = c.gOn * r.gateOff / 16 ∧
    (r.legal = true → 64 ≤ c.gOn ∧ 8 ≤ c.gOff ∧ c.gOff < c.gOn) ∧
    c.tol = held Override.tol (match g with | .fast => 12 | .standard => 8 | .robust => 5) ∧
    c.onsetTimeout =
      held Override.onsetTimeout (match g with | .fast => 960 | .standard => 1920 | .robust => 3840) ∧
    c.jump = held Override.jump (match g with | .fast => 70 | .standard => 90 | .robust => 120)

/-- A sample in MUTED: no stage runs, and only the previous sample is kept, with the clearings that act
from this sample (R50, R77, R78). -/
def Claims.MutedSample : Prop :=
  ∀ (s : State) (n : StringNo) (y : Int), (s.trackers.get n).state = .muted →
    s.trackerSample n y =
      s.updTracker n fun t => { t.applyClears with prevY := y }

/-- A sample in SILENT: an onset when E is G_on or more, with the onset peak E and the requested bank
adopted, and reported to the Learn Engine; else the tracker stays SILENT (R80, R97). The other trackers are
not touched. -/
def Claims.SilentSample : Prop :=
  ∀ (s : State) (n : StringNo) (y : Int), (s.trackers.get n).state = .silent →
    let r := (s.trackers.get n).applyClears.measure s.siu.rate s.store.global.offset s.siu.stamp y
    let t := s.trackerSample n y
    let onset := r.tracker.copy.gOn ≤ r.tracker.e
    (∀ m, m ≠ n → t.trackers.get m = s.trackers.get m) ∧
    t.trackers.get n = (if onset then s.onsetEntry n r.tracker.e r.tracker else r.tracker) ∧
    t.learn = (if onset then (s.learnOnset n).learn else s.learn) ∧
    t.ports = (if onset then (s.learnOnset n).ports else s.ports) ∧
    ∀ p, (t.streams.get p).waiting =
      if onset then s.waitsAfter p n (s.adoption n) else (s.streams.get p).waiting

/-- The clearings that act from the next sample, made before its stages: of E; of the interval history, with
the last mark and the stall count; of the armed flag and both period peaks. Each is made once, and nothing
else changes (R52, R54, R57, R61, R77; their marks: log entry 14). -/
def Claims.ClearingsAct : Prop :=
  ∀ t : Tracker, t.applyClears = { t with
    e := if t.clearE then 0 else t.e,
    history := if t.clearHistory then [] else t.history,
    lastMark := if t.clearHistory then none else t.lastMark,
    stall := if t.clearHistory then 0 else t.stall,
    armed := if t.clearDetector then false else t.armed,
    curPeak := if t.clearDetector then 0 else t.curPeak,
    prevPeak := if t.clearDetector then 0 else t.prevPeak,
    clearE := false, clearHistory := false, clearDetector := false }

/-- A sample in MUTED and in SILENT, and the clearings that come before the stages of a sample in any state
(R50, R77, R80). -/
def Obligations.MutedAndSilentSample : Prop :=
  Claims.MutedSample ∧ Claims.SilentSample ∧ Claims.ClearingsAct

/-- A sample in ONSET: the timer rises, a kept mark raises the onset peak, an accepted period starts the
note with START, and without one an E below G_off is a ghost (R82, R83). None of them is an onset, so
nothing reaches the Learn Engine (R97). -/
def Obligations.OnsetSample : Prop :=
  ∀ (s : State) (n : StringNo) (y : Int), (s.trackers.get n).state = .onset →
    let r := (s.trackers.get n).applyClears.measure s.siu.rate s.store.global.offset s.siu.stamp y
    let t := s.trackerSample n y
    let peak := match r.kept with
      | none => r.tracker.onsetPeak
      | some k => min 32767 (max r.tracker.onsetPeak k.1)
    let raised := { r.tracker with onsetTimer := r.tracker.onsetTimer.map (· + 1), onsetPeak := peak }
    (∀ m, m ≠ n → t.trackers.get m = s.trackers.get m) ∧
    t.learn = s.learn ∧ t.ports = s.ports ∧
    match r.accepted with
    | some v =>
      let note : HeldNote := ⟨((v + 50) / 100).toNat, v,
        max 1 (min 127 (peak * r.tracker.copy.sens / 16384))⟩
      t.trackers.get n = { raised with
        state := .sounding, note := some note, articulation := r.tracker.articulation + 1,
        onsetTimer := none, levelTimer := some 0 } ∧
      ∀ p, (t.streams.get p).waiting =
        s.waitsAfter p n [.track n .start note (min 127 (r.tracker.e / 256))]
    | none =>
      if r.tracker.e < r.tracker.copy.gOff then
        t.trackers.get n = s.silentEntry n { raised with ghost := r.tracker.ghost + 1 } ∧
        ∀ p, (t.streams.get p).waiting = s.waitsAfter p n (s.adoption n)
      else t.trackers.get n = raised ∧ ∀ p, (t.streams.get p).waiting = (s.streams.get p).waiting

/-- A sample in SOUNDING that holds a note: a re-pick ends the note with END(REPICK) and begins an onset
with the period peak, which is reported to the Learn Engine; else an acceptance is an ARTIC at a change
of jump or more and a PITCH below it; an E below G_off enters RELEASING; the level timer rises by 1
(R84, R85, R88, R97). -/
def Obligations.SoundingSample : Prop :=
  ∀ (s : State) (n : StringNo) (y : Int) (h : HeldNote), (s.trackers.get n).state = .sounding →
    (s.trackers.get n).note = some h →
    let r := (s.trackers.get n).applyClears.measure s.siu.rate s.store.global.offset s.siu.stamp y
    let c := r.tracker.copy
    let t := s.trackerSample n y
    let level := min 127 (r.tracker.e / 256)
    let picked := r.kept.filter fun k => decide (k.2 * c.repick / 16 < k.1 ∧ c.gOn ≤ k.1)
    let go := fun (k : Tracker) => { k with
      state := if r.tracker.e < c.gOff then .releasing else .sounding,
      releaseTimer := if r.tracker.e < c.gOff then some c.releaseHold else k.releaseTimer,
      levelTimer := k.levelTimer.map (· + 1) }
    (∀ m, m ≠ n → t.trackers.get m = s.trackers.get m) ∧
    t.learn = (if picked.isSome then (s.learnOnset n).learn else s.learn) ∧
    t.ports = (if picked.isSome then (s.learnOnset n).ports else s.ports) ∧
    match picked with
    | some k =>
      t.trackers.get n = s.onsetEntry n k.1 r.tracker ∧
      ∀ p, (t.streams.get p).waiting =
        s.waitsAfter p n (.track n (.ended .repick) h level :: s.adoption n)
    | none =>
      match r.accepted with
      | none => t.trackers.get n = go r.tracker ∧
          ∀ p, (t.streams.get p).waiting = (s.streams.get p).waiting
      | some v =>
        let articulates := c.jump ≤ (v - h.pitch).natAbs
        let note : HeldNote := if articulates
          then ⟨((v + 50) / 100).toNat, v, max 1 (min 127 (r.tracker.e * c.sens / 16384))⟩
          else { h with pitch := v }
        t.trackers.get n = go { r.tracker with
          note := some note,
          articulation := if articulates then r.tracker.articulation + 1 else r.tracker.articulation,
          releaseTimer := if articulates then none else r.tracker.releaseTimer } ∧
        ∀ p, (t.streams.get p).waiting =
          s.waitsAfter p n [.track n (if articulates then .artic else .pitch) note level]

/-- A sample in RELEASING that holds a note: re-pick, with its report, and acceptance as in SOUNDING; an
ARTIC, or an E of G_on or more, returns to SOUNDING with the release timer discarded; else the release
timer falls by 1; the level timer rises unless the note ends at this sample (R87, R88, R97). -/
def Obligations.ReleasingSample : Prop :=
  ∀ (s : State) (n : StringNo) (y : Int) (h : HeldNote), (s.trackers.get n).state = .releasing →
    (s.trackers.get n).note = some h →
    let r := (s.trackers.get n).applyClears.measure s.siu.rate s.store.global.offset s.siu.stamp y
    let c := r.tracker.copy
    let t := s.trackerSample n y
    let level := min 127 (r.tracker.e / 256)
    let picked := r.kept.filter fun k => decide (k.2 * c.repick / 16 < k.1 ∧ c.gOn ≤ k.1)
    let go := fun (k : Tracker) (sounds : Bool) =>
      let timer := if sounds then none else k.releaseTimer.map (· - 1)
      { k with
        state := if sounds then .sounding else .releasing, releaseTimer := timer,
        levelTimer := if timer = some 0 then k.levelTimer else k.levelTimer.map (· + 1) }
    let returns := decide (c.gOn ≤ r.tracker.e)
    (∀ m, m ≠ n → t.trackers.get m = s.trackers.get m) ∧
    t.learn = (if picked.isSome then (s.learnOnset n).learn else s.learn) ∧
    t.ports = (if picked.isSome then (s.learnOnset n).ports else s.ports) ∧
    match picked with
    | some k =>
      t.trackers.get n = s.onsetEntry n k.1 r.tracker ∧
      ∀ p, (t.streams.get p).waiting =
        s.waitsAfter p n (.track n (.ended .repick) h level :: s.adoption n)
    | none =>
      match r.accepted with
      | none => t.trackers.get n = go r.tracker returns ∧
          ∀ p, (t.streams.get p).waiting = (s.streams.get p).waiting
      | some v =>
        let articulates := c.jump ≤ (v - h.pitch).natAbs
        let note : HeldNote := if articulates
          then ⟨((v + 50) / 100).toNat, v, max 1 (min 127 (r.tracker.e * c.sens / 16384))⟩
          else { h with pitch := v }
        t.trackers.get n = go { r.tracker with
          note := some note,
          articulation := if articulates then r.tracker.articulation + 1 else r.tracker.articulation }
          (decide articulates || returns) ∧
        ∀ p, (t.streams.get p).waiting =
          s.waitsAfter p n [.track n (if articulates then .artic else .pitch) note level]

/-- The ends of a tracker's counts. STALL at 1250 samples without a kept mark empties the history and
makes the last mark absent; ONSET_TIMEOUT beyond onset_timeout is a ghost; LEVEL_TIMER at 240 publishes
LEVEL and starts again; a count that has not ended changes nothing (R60, R61, R83, R88; log entry 2). -/
def Claims.CountsEnd : Prop :=
  ∀ (n : StringNo) (s : State),
    let t := s.trackers.get n
    exec (.stall n) s = .next (
      if 1250 ≤ t.stall then s.updTracker n fun k => { k with history := [], lastMark := none, stall := 0 }
      else s) ∧
    exec (.onsetTimeout n) s = .next (
      if t.state = .onset ∧ ∃ k, t.onsetTimer = some k ∧ t.copy.onsetTimeout < k then
        (s.adoption n).foldl (fun u pub => u.publish (.tracker n) pub)
          (s.updTracker n fun k => s.silentEntry n { k with ghost := k.ghost + 1 })
      else s) ∧
    ∀ h, t.note = some h → exec (.levelTimer n) s = .next (
      if (t.state = .sounding ∨ t.state = .releasing) ∧ ∃ k, t.levelTimer = some k ∧ 240 ≤ k then
        (s.updTracker n fun k => { k with levelTimer := some 0 }).publish (.tracker n)
          (.track n .level h (min 127 (t.e / 256)))
      else s)

/-- RELEASE_TIMER_END: in RELEASING with the release timer at 0 the note ends with END(RELEASE) and the
tracker enters SILENT, with BANK_ADOPTED behind the END where a bank is pending; else nothing happens
(R81, R87, R90). -/
def Claims.ReleaseTimerEnds : Prop :=
  ∀ (n : StringNo) (s : State) (h : HeldNote), (s.trackers.get n).note = some h →
    exec (.releaseTimerEnd n) s = .next (
      if (s.trackers.get n).state = .releasing ∧ (s.trackers.get n).releaseTimer = some 0 then
        (s.adoption n).foldl (fun u pub => u.publish (.tracker n) pub)
          ((s.updTracker n fun k => s.silentEntry n k).publish (.tracker n)
            (.track n (.ended .release) h (min 127 ((s.trackers.get n).e / 256))))
      else s)

/-- The four events that a tracker's counts reach (R60, R83, R87, R88). -/
def Obligations.TrackerCountsEnd : Prop :=
  Claims.CountsEnd ∧ Claims.ReleaseTimerEnds

/-! ### Chapter 6: the Profile Store -/

/-- EDIT_PROFILE in the steps of R104: NAME, base (STALE), CODE, clamp, WINDOW, store. An accepted commit
stores the clamped record with its revision one higher, raises PEER_COMMIT at the other port, tells the
Learn Engine and answers with the clamped indication and the stored record (R104, R106, R107). -/
def Obligations.EditProfile : Prop :=
  ∀ (p : Port) (base : Half) (m : ProfileImage) (s : State), s.ready p = true →
    (∀ bank string : Byte, 2 ≤ bank.toNat ∨ string = 0 ∨ 7 ≤ string.toNat →
      exec (.editProfile p bank string base m) s = .next (s.awaits p 27 .invalid [1])) ∧
    ∀ (k : Bank) (n : StringNo),
      let present := s.store.profile k n
      let lim := fun (lo hi x : Nat) => max lo (min hi x)
      let mark := fun j : Nat => m.marks.toNat / 4 ^ j % 4
      let held := fun (j lo hi x : Nat) => if mark j = 1 then some (lim lo hi x) else none
      let r : Profile := {
        windowLow := lim 2800 10400 m.windowLow.toNat
        windowHigh := lim 2800 10400 m.windowHigh.toNat
        gateOn := lim 4 64 m.gateOn.toNat
        gateOff := lim 2 15 m.gateOff.toNat
        repick := lim 20 64 m.repick.toNat
        sens := lim 1 255 m.sens.toNat
        decay := lim 4 12 m.decay.toNat
        releaseHold := lim 240 9600 m.releaseHold.toNat
        bleedThinner := lim 0 8192 m.bleedThinner.toNat
        bleedThicker := lim 0 8192 m.bleedThicker.toNat
        override := if mark 0 = 1 ∧ (mark 1 = 1 ∨ mark 2 = 1 ∨ mark 3 = 1) then
            some ⟨held 1 2 32 m.tol.toNat, held 2 480 4800 m.onsetTimeout.toNat,
              held 3 60 300 m.jump.toNat⟩
          else none
        revision := present.revision + 1 }
      let changed := decide (r.windowLow ≠ m.windowLow.toNat ∨ r.windowHigh ≠ m.windowHigh.toNat ∨
        r.gateOn ≠ m.gateOn.toNat ∨ r.gateOff ≠ m.gateOff.toNat ∨ r.repick ≠ m.repick.toNat ∨
        r.sens ≠ m.sens.toNat ∨ r.decay ≠ m.decay.toNat ∨ r.releaseHold ≠ m.releaseHold.toNat ∨
        r.bleedThinner ≠ m.bleedThinner.toNat ∨ r.bleedThicker ≠ m.bleedThicker.toNat ∨
        (mark 0 = 1 ∧ mark 1 = 1 ∧ lim 2 32 m.tol.toNat ≠ m.tol.toNat) ∨
        (mark 0 = 1 ∧ mark 2 = 1 ∧ lim 480 4800 m.onsetTimeout.toNat ≠ m.onsetTimeout.toNat) ∨
        (mark 0 = 1 ∧ mark 3 = 1 ∧ lim 60 300 m.jump.toNat ≠ m.jump.toNat))
      exec (.editProfile p (BitVec.ofNat 8 k.code) (BitVec.ofNat 8 n.number) base m) s = .next (
        if base ≠ present.revision then s.awaits p 27 .stale (be16 present.revision)
        else if 2 ≤ mark 0 ∨ 2 ≤ mark 1 ∨ 2 ≤ mark 2 ∨ 2 ≤ mark 3 then
          s.awaits p 27 .invalid (2 :: be16 present.revision)
        else if r.windowHigh < r.windowLow then s.awaits p 27 .invalid (3 :: be16 present.revision)
        else ((State.raise { s with store := s.store.setProfile k n r } p.other .peerCommit).learnProfileCommit
          k n).awaits p 27 .ok ((if changed then 1 else 0) :: imageBytes r.image))

/-- EDIT_GLOBAL: STALE, CODE, MAP_DUPLICATE before MAP_RANGE, and else the clamped record is stored with
its revision one higher, PEER_COMMIT is raised at the other port, the response carries the clamped
indication and the record, and the blocks take the change (R104, R105, R106, R107). -/
def Obligations.EditGlobal : Prop :=
  ∀ (p : Port) (base : Half) (m : GlobalImage) (s : State), s.ready p = true →
    let present := s.store.global
    let na := max 6 (min 8 m.na.toNat)
    let refused := fun c : Byte => s.awaits p 21 .invalid (c :: be16 present.revision)
    let code := 3 ≤ m.grade.toNat ∨ ∃ n, 8 ≤ (m.map.get n).toNat ∧ m.map.get n ≠ 0xFF
    let duplicate := ∃ n k, n ≠ k ∧ m.map.get n = m.map.get k ∧ m.map.get n ≠ 0xFF
    let beyond := ∃ n, na ≤ (m.map.get n).toNat ∧ m.map.get n ≠ 0xFF
    (base ≠ present.revision →
      exec (.editGlobal p base m) s = .next (s.awaits p 21 .stale (be16 present.revision))) ∧
    (base = present.revision → code → exec (.editGlobal p base m) s = .next (refused 2)) ∧
    (base = present.revision → ¬ code → duplicate →
      exec (.editGlobal p base m) s = .next (refused 4)) ∧
    (base = present.revision → ¬ code → ¬ duplicate → beyond →
      exec (.editGlobal p base m) s = .next (refused 5)) ∧
    (base = present.revision → ¬ code → ¬ duplicate → ¬ beyond → ∃ g : Global,
      g.na = na ∧ (∀ i, g.gains.get i = min 3 (m.gains.get i).toNat) ∧
      (∀ n, g.map.get n = if m.map.get n = 0xFF then none else Sin.ofNumber? (m.map.get n).toNat) ∧
      g.offset = max (-50) (min 50 m.offset.toInt) ∧ g.grade.code = m.grade.toNat ∧
      g.revision = present.revision + 1 ∧ g.legal = true ∧
      (s.commitGlobal g).store = { s.store with global := g } ∧
      exec (.editGlobal p base m) s = .next (((s.commitGlobal g).raise p.other .peerCommit).awaits p 21 .ok
        ((if na ≠ m.na.toNat ∨ (Sin.all.any fun i => decide (3 < (m.gains.get i).toNat)) = true ∨
            g.offset ≠ m.offset.toInt then 1 else 0) :: globalBytes g.image)))

/-- An accepted global record outside ACTIVE: link state, floors and dropped flags stay, no tracker and
no stream changes; a running settle window begins again when NA, a gain code or the map changed (R23,
R96, R113). At every link state the accumulators of inputs made digital are discarded, those of inputs
made analog or newly used are to be loaded, and those whose gain code changed are cleared, but for one
that is to be loaded already and stays so (R37, R43, R44, R45; log entry 26). An input whose role
changes between analog and digital loses its clip run, its rail run and its episode with the report made
in it, and keeps its counters; every other input, and the clock, stay as they are (R2). -/
def Claims.GlobalCommitAtTheFrontEnd : Prop :=
  ∀ (s : State) (g : Global),
    let old := s.store.global
    let t := s.commitGlobal g
    (∀ i, let digital := ¬ i.number < g.na
      let becameAnalog := ¬ i.number < old.na
      let newlyUsed := ∃ n, g.map.get n = some i ∧ old.map.get n ≠ some i
      (digital → t.cond.dc.get i = .absent) ∧
      (¬ digital → becameAnalog ∨ newlyUsed → t.cond.dc.get i = .toLoad) ∧
      (¬ digital → ¬ (becameAnalog ∨ newlyUsed) → g.gains.get i ≠ old.gains.get i →
        t.cond.dc.get i = if s.cond.dc.get i = .toLoad then .toLoad else .held 0) ∧
      (¬ digital → ¬ (becameAnalog ∨ newlyUsed) → g.gains.get i = old.gains.get i →
        t.cond.dc.get i = s.cond.dc.get i)) ∧
    t.cond.sat = s.cond.sat ∧
    (∀ i, let u := s.siu.inputs.get i
      let v := t.siu.inputs.get i
      if i.number < old.na ↔ i.number < g.na then v = u
      else v.clip = u.clip ∧ v.stuck = u.stuck ∧ v.raw = u.raw ∧ v.clipRun = false ∧
        v.rail.length = 0 ∧ v.episode = false ∧ v.longReported = false) ∧
    t.siu = { s.siu with inputs := t.siu.inputs, aux6 := t.siu.aux6, aux7 := t.siu.aux7 } ∧
    (∀ x, t.siu.aux x = if g.role x.sin = old.role x.sin then s.siu.aux x else AuxUnit.fresh) ∧
    (s.link.state ≠ .active → t.trackers = s.trackers ∧ t.streams = s.streams ∧
      t.link = if s.link.state = .settling ∧
          (g.na ≠ old.na ∨ g.gains ≠ old.gains ∨ g.map ≠ old.map) then
          { s.link with
            progress := 0, windowMax := ⟨0, 0, 0, 0, 0, 0, 0, 0⟩,
            stuckSeen := ⟨false, false, false, false, false, false, false, false⟩ }
        else s.link)

/-- An accepted global record in ACTIVE. Where NA or the map changed: an input made analog has floor 0 and
is dropped, one made digital has floor 0 and is not; a string no longer usable is in MUTED, one that became
usable or whose entry changed is in SILENT on its new input, any other tracker is as it was; the width is
the number of usable strings. A note of a string that is remapped or no longer usable ends with END(REMAP),
an entry to SILENT publishes BANK_ADOPTED where a bank is pending, and a change of the width WIDTH. Otherwise
link, trackers and streams stay as they are (R28, R78, R79, R90, R91, R96, R114). -/
def Claims.GlobalCommitInActive : Prop :=
  ∀ (s : State) (g : Global), s.link.state = .active →
    let old := s.store.global
    let t := s.commitGlobal g
    (g.na = old.na → g.map = old.map → t.link = s.link ∧ t.trackers = s.trackers ∧
      t.streams = s.streams) ∧
    (g.na ≠ old.na ∨ g.map ≠ old.map →
      t.link.state = .active ∧ t.link.width = t.usableCount ∧ t.link.expect = s.link.expect ∧
      (∀ i, let was := decide (i.number < old.na)
        let is := decide (i.number < g.na)
        t.link.floors.get i = (if was = is then s.link.floors.get i else 0) ∧
        t.link.dropped.get i = (if was = is then s.link.dropped.get i else is)) ∧
      (∀ n, let k := s.trackers.get n
        if t.usable n then
          t.trackers.get n =
            if k.state = .muted ∨ g.map.get n ≠ old.map.get n then t.silentEntry n k else k
        else (t.trackers.get n).state = .muted ∧ (k.state ≠ .muted → (t.trackers.get n).note = none)) ∧
      ∀ p, t.streams.get p = { s.streams.get p with
        waiting := (s.streams.get p).waiting ++
          (StringNo.all.flatMap fun n =>
            let k := s.trackers.get n
            let ends := k.note.toList.map fun h =>
              Publication.track n (.ended .remap) h (min 127 (k.e / 256))
            let made :=
              if t.usable n then
                if k.state = .muted then s.adoption n
                else if g.map.get n = old.map.get n then [] else ends ++ s.adoption n
              else if k.state = .muted then [] else ends
            made.map fun u => ⟨.tracker n, s.siu.stamp, s.phase, u⟩) ++
          if t.link.width = s.link.width then []
          else [⟨.link, s.siu.stamp, s.phase, .notice .width t.link.width s.link.width⟩] })

/-- An accepted global record reaches the Learn Engine whatever the link state: what becomes of the learn, and
the LEARN_DONE it may raise, is the engine's own outcome (R115, R128). -/
def Claims.GlobalCommitAtTheLearn : Prop :=
  ∀ (s : State) (g : Global),
    let t := s.commitGlobal g
    let u := s.learnGlobalCommit s.store.global g
    t.learn = u.learn ∧ t.ports = u.ports

/-- What an accepted global record does to the blocks that read it (R113, R114, R115). -/
def Obligations.GlobalCommit : Prop :=
  Claims.GlobalCommitAtTheFrontEnd ∧ Claims.GlobalCommitInActive ∧ Claims.GlobalCommitAtTheLearn

/-- SELECT_BANK: a bank code or a mask bit that names nothing is refused INVALID; else the requested bank
of every string of the mask is the bank given, a SILENT tracker adopts it at once with a new working copy,
a MUTED one without, and any other keeps its bank in effect; each adoption publishes BANK_ADOPTED, and the
streams keep all else; the response carries the six requested banks (R91, R116). No flag is raised. -/
def Obligations.SelectBank : Prop :=
  ∀ (p : Port) (mask bank : Byte) (s : State), s.ready p = true →
    (2 ≤ bank.toNat ∨ 64 ≤ mask.toNat →
      exec (.selectBank p mask bank) s = .next (s.awaits p 2 .invalid [])) ∧
    ∀ k : Bank, mask.toNat < 64 → bank = BitVec.ofNat 8 k.code →
      ∃ t : State, exec (.selectBank p mask bank) s = .next (t.awaits p 2 .ok
          (t.store.requested.toList.flatMap fun x => [BitVec.ofNat 8 x.code])) ∧
        t.siu = s.siu ∧ t.link = s.link ∧ t.cond = s.cond ∧ t.learn = s.learn ∧ t.ports = s.ports ∧
        t.store.banks = s.store.banks ∧ t.store.global = s.store.global ∧ t.phase = s.phase ∧
        (∀ q, t.streams.get q = { s.streams.get q with
          waiting := (s.streams.get q).waiting ++ StringNo.all.filterMap fun n =>
            let was := s.trackers.get n
            if mask.getLsbD (n.number - 1) = true ∧ was.bank ≠ k ∧
                (was.state = .silent ∨ was.state = .muted) then
              some ⟨.tracker n, s.siu.stamp, s.phase, .notice .bankAdopted n.number k.code⟩
            else none }) ∧
        ∀ n, let named := mask.getLsbD (n.number - 1)
          let was := s.trackers.get n
          t.store.requested.get n = (if named then k else s.store.requested.get n) ∧
          t.trackers.get n =
            if named ∧ was.bank ≠ k ∧ was.state = .silent then
              { was with bank := k, copy := s.copyFor n k }
            else if named ∧ was.bank ≠ k ∧ was.state = .muted then { was with bank := k }
            else was

/-- READ_PROFILE and READ_GLOBAL report the records in their images of 23 and 19 bytes, with their revisions
and the requested banks, refuse INVALID a bank or string that names nothing, and change nothing (R103, R191,
R192). -/
def Obligations.ReadRecords : Prop :=
  ∀ (p : Port) (s : State), s.ready p = true →
    let b1 := fun x : Nat => [BitVec.ofNat 8 x]
    let b2 := fun x : Nat => [BitVec.ofNat 8 (x / 256), BitVec.ofNat 8 x]
    let bank := fun k : Bank => match k with
      | .a => (0 : Byte)
      | .b => 1
    (∀ bank string : Byte, 2 ≤ bank.toNat ∨ string = 0 ∨ 7 ≤ string.toNat →
      exec (.readProfile p bank string) s = .next (s.awaits p 2 .invalid [])) ∧
    (∀ (k : Bank) (n : StringNo),
      let r := s.store.profile k n
      let held := fun f : Override → Option Nat => r.override.bind f
      let mark := fun f : Override → Option Nat => if (held f).isSome then 1 else (0 : Nat)
      let field := fun f : Override → Option Nat => (held f).getD 0
      let image :=
        b2 r.windowLow ++ b2 r.windowHigh ++ b1 r.gateOn ++ b1 r.gateOff ++ b1 r.repick ++ b1 r.sens ++
        b1 r.decay ++ b2 r.releaseHold ++ b2 r.bleedThinner ++ b2 r.bleedThicker ++
        b1 ((if r.override.isSome then 1 else 0) + 4 * mark Override.tol +
          16 * mark Override.onsetTimeout + 64 * mark Override.jump) ++
        b1 (field Override.tol) ++ b2 (field Override.onsetTimeout) ++ b2 (field Override.jump) ++
        b2 r.revision.toNat
      image.length = 23 ∧
      exec (.readProfile p (bank k) (BitVec.ofNat 8 n.number)) s =
        .next (s.awaits p 2 .ok (image ++ [bank (s.store.requested.get n)]))) ∧
    let g := s.store.global
    let image :=
      b1 g.na ++ (Sin.all.flatMap fun i => b1 (g.gains.get i)) ++
      (StringNo.all.flatMap fun n => match g.map.get n with
        | none => b1 255
        | some i => b1 i.number) ++
      [BitVec.ofInt 8 g.offset] ++
      b1 (match g.grade with | .fast => 0 | .standard => 1 | .robust => 2) ++ b2 g.revision.toNat
    image.length = 19 ∧
    exec (.readGlobal p) s = .next (s.awaits p 0 .ok (image ++
      StringNo.all.map fun n => bank (s.store.requested.get n)))

/-! ### Chapter 7: the Learn Engine -/

/-- LEARN_START in its steps: INVALID name, BUSY with the learn in flight, STATE outside ACTIVE, INVALID
for a string that is not usable, STALE, and else ARMED with 10,000 ms on the arm timer (R121). -/
def Claims.LearnStart : Prop :=
  ∀ (p : Port) (base : Half) (s : State), s.ready p = true →
    (∀ string bank : Byte, 2 ≤ bank.toNat ∨ string = 0 ∨ 7 ≤ string.toNat →
      exec (.learnStart p string bank base) s = .next (s.awaits p 4 .invalid [])) ∧
    ∀ (n : StringNo) (k : Bank),
      exec (.learnStart p (BitVec.ofNat 8 n.number) (BitVec.ofNat 8 k.code) base) s = .next (
        match s.learn.state.target with
        | some t => s.awaits p 4 .busy [BitVec.ofNat 8 t.string.number, BitVec.ofNat 8 t.bank.code,
            BitVec.ofNat 8 t.port.code, BitVec.ofNat 8 s.learn.state.code]
        | none =>
          if s.link.state ≠ .active then s.awaits p 4 .state [BitVec.ofNat 8 s.link.state.code]
          else if s.usable n = false then s.awaits p 4 .invalid []
          else if base ≠ (s.store.profile k n).revision then
            s.awaits p 4 .stale (be16 (s.store.profile k n).revision)
          else State.awaits { s with learn := { s.learn with state := .armed ⟨n, k, base, p⟩ 10000 } } p 4
            .ok ([BitVec.ofNat 8 n.number, BitVec.ofNat 8 k.code] ++ be16 base))

/-- LEARN_ABORT ends a learn whose commit is not handed with ABORTED and answers with the last result;
otherwise it is refused STATE with the learn state and the last result (R129, R130). LEARN_STATUS reports
the engine in 50 bytes and changes nothing (R130, R193). -/
def Claims.LearnAbortAndStatus : Prop :=
  ∀ (p : Port) (s : State), s.ready p = true →
    let b1 := fun x : Nat => [BitVec.ofNat 8 x]
    let b2 := fun x : Nat => [BitVec.ofNat 8 (x / 256), BitVec.ofNat 8 x]
    let body :=
      b1 (match s.learn.state with | .idle => 0 | .armed .. => 1 | .capture .. => 2) ++
      (match s.learn.state.target with
        | none => ([0, 0, 0, 0, 0, 0] : List Byte)
        | some t => 1 :: (b1 t.string.number ++ b1 t.bank.code ++ b2 t.base.toNat ++ b1 t.port.code)) ++
      (match s.learn.state with
        | .armed _ ms => 1 :: b2 ms
        | _ => ([0, 0, 0] : List Byte)) ++
      (match s.learn.state with
        | .capture _ count k handed => 1 :: (b2 count ++ b2 k.own ++ b2 k.thinner ++ b2 k.thicker ++
            [if handed.isSome then 1 else 0])
        | _ => ([0, 0, 0, 0, 0, 0, 0, 0, 0, 0] : List Byte)) ++ s.learn.last.bytes
    body.length = 50 ∧ exec (.learnStatus p) s = .next (s.awaits p 0 .ok body) ∧
    exec (.learnAbort p) s = .next (
      match s.learn.state.open? with
      | none => s.awaits p 0 .state (BitVec.ofNat 8 s.learn.state.code :: s.learn.last.bytes)
      | some t =>
        let r := s.learnEnds t { code := .aborted, reason := none, target := none,
                                 abortPort := some p, peaks := none, measured := none, revision := none }
        r.awaits p 0 .ok r.learn.last.bytes)

/-- The last result is laid out in 30 bytes, each group behind its presence byte (R188, R193). -/
def Claims.LastResultBytes : Prop :=
  ∀ r : LastResult,
    let b1 := fun x : Nat => [BitVec.ofNat 8 x]
    let b2 := fun x : Nat => [BitVec.ofNat 8 (x / 256), BitVec.ofNat 8 x]
    let port := fun p : Port => b1 (match p with | .a => 0 | .b => 1)
    let group := fun (length : Nat) (v : Option (List Byte)) => match v with
      | none => List.replicate (length + 1) (0 : Byte)
      | some l => 1 :: l
    r.bytes.length = 30 ∧ r.bytes =
      b1 (match r.code with | .none => 0 | .done => 1 | .failed => 2 | .aborted => 3) ++
      group 1 (r.reason.map fun x => b1 (match x with
        | .timeout => 1 | .disturbed => 2 | .link => 3 | .remap => 4 | .stale => 5 | .weak => 6)) ++
      group 8 (r.target.map fun x => b1 x.1.string.number ++
        b1 (match x.1.bank with | .a => 0 | .b => 1) ++ b2 x.1.base.toNat ++ port x.1.port ++
        b1 (x.2.toNat / 65536) ++ b2 x.2.toNat) ++
      group 1 (r.abortPort.map port) ++
      group 6 (r.peaks.map fun x => b2 x.own ++ b2 x.thinner ++ b2 x.thicker) ++
      group 5 (r.measured.map fun x => b2 x.bleedThinner ++ b2 x.bleedThicker ++ b1 x.sens) ++
      group 2 (r.revision.map fun x => b2 x.toNat)

/-- The three learn commands (R121, R129, R130, R193). -/
def Obligations.LearnCommands : Prop :=
  Claims.LearnStart ∧ Claims.LearnAbortAndStatus ∧ Claims.LastResultBytes

/-- An onset reported to the engine: the target's moves ARMED to CAPTURE with count and peaks at 0; one of
a string outside the target and its neighbours ends the learn FAILED DISTURBED; every other onset, and any
onset once the commit is handed, changes nothing (R122, R123, R124, R126). -/
def Claims.LearnTakesOnsets : Prop :=
  ∀ (s : State) (n : StringNo),
    s.learnOnset n = match s.learn.state.open? with
      | none => s
      | some t =>
        if n = t.string then
          match s.learn.state with
          | .armed _ _ => { s with learn := { s.learn with state := .capture t 0 ⟨0, 0, 0⟩ none } }
          | _ => s
        else if t.string.thinner? = some n ∨ t.string.thicker? = some n then s
        else s.learnEnds t (LastResult.failure .disturbed)

/-- The store's and the link monitor's notices: a commit to the target record ends the learn FAILED STALE,
a map or gain change of the target or a neighbour FAILED REMAP, a drop of the target's input FAILED LINK;
with no learn open to endings nothing changes (R127, R128). -/
def Claims.LearnTakesNotices : Prop :=
  ∀ (s : State),
    (s.learn.state.open? = none →
      (∀ k n, s.learnProfileCommit k n = s) ∧ (∀ old new, s.learnGlobalCommit old new = s) ∧
      ∀ n, s.learnDropped n = s) ∧
    ∀ t, s.learn.state.open? = some t →
      (∀ k n, s.learnProfileCommit k n =
        if k = t.bank ∧ n = t.string then s.learnEnds t (LastResult.failure .stale) else s) ∧
      (∀ n, s.learnDropped n =
        if n = t.string then s.learnEnds t (LastResult.failure .link) else s) ∧
      ∀ old new : Global,
        let three := fun n => n = t.string ∨ t.string.thinner? = some n ∨ t.string.thicker? = some n
        ((∃ n, three n ∧ (old.map.get n ≠ new.map.get n ∨
            ∃ i, new.map.get n = some i ∧ old.gains.get i ≠ new.gains.get i)) →
          s.learnGlobalCommit old new = s.learnEnds t (LastResult.failure .remap)) ∧
        ((∀ n, three n → old.map.get n = new.map.get n ∧
            ∀ i, new.map.get n = some i → old.gains.get i = new.gains.get i) →
          s.learnGlobalCommit old new = s)

/-- What the reports of the other blocks do to a learn (R122, R126, R127, R128). -/
def Obligations.LearnTakesReports : Prop :=
  Claims.LearnTakesOnsets ∧ Claims.LearnTakesNotices

/-- The arm timer's expiry ends ARMED with FAILED TIMEOUT; in any other state it runs not (R122, log
entry 2). The row is the end of the 10,000 ms and acts whatever is left of the model's own count (the
model's choice, log entry 4). -/
def Claims.ArmTimerExpires : Prop :=
  ∀ s : State, s.settled = true → exec .armTimerExpiry s = .next (
    match s.learn.state with
    | .armed t _ => s.learnEnds t (LastResult.failure .timeout)
    | _ => s)

/-- A conversion set in CAPTURE before the commit is handed raises the capture count by 1 and each peak to
the absolute value of its tap, where the tap carries one; the last set, from 4095 to 4096, is one of them (R47,
R123, R124). A learn that ends at the set is not meant. Where the order operand has the engine take the capture
end at the 4096th set before the onsets of that set, the learn is as the row CAPTURE_END makes it with these
peaks and the set's stamp (R124, R126; the operand: log entry 5). -/
def Claims.CaptureGathersPeaks : Prop :=
  ∀ (src : SampleSource) (pins : SetInputs) (order : SetOrder) (s t : State) (g : Target) (count : Nat)
    (k : Peaks),
    (src = .internalTick ↔ s.siu.choice = .internal) → s.settled = true → s.recordsOk = true →
    s.learn.state = .capture g count k none →
    exec (.conversionSet src pins order) s = .next t →
    let x := fun i => max (-32768)
      (min 32767 ((pins.raw.get i).toInt * 2 ^ s.store.global.gains.get i))
    let tap := fun n : Option StringNo => match n.bind fun k => s.store.global.map.get k with
      | none => (0 : Nat)
      | some i => if s.link.dropped.get i then 0 else match s.cond.dc.get i with
        | .held m => (x i - m / 1024).natAbs
        | _ => 0
    let gathered := LearnState.capture g (count + 1)
      ⟨max k.own (tap (some g.string)), max k.thinner (tap g.string.thinner?),
        max k.thicker (tap g.string.thicker?)⟩ none
    let u := { s with
      siu := { s.siu with stamp := s.siu.stamp + 1 }, learn := { s.learn with state := gathered } }
    count ≤ 4095 ∧
    if count = 4095 ∧ order.captureFirst = true then
      ∃ v, exec .captureEnd u = .next v ∧ t.learn = v.learn
    else t.learn.state ≠ .idle → t.learn.state = gathered

/-- CAPTURE_END at a count of 4096: FAILED WEAK with the peaks for an own peak below 2048; else the
results floor(32768 p / p_s), clamped to 8192, and ceil(100 * 16384 / p_s), clamped to 1..255, are
handed to the store, the coefficient toward a neighbour that does not exist being the stored one (R124,
R125). Below 4096 the row changes nothing (log entry 2). -/
def Claims.CaptureEnds : Prop :=
  ∀ (s : State) (t : Target) (count : Nat) (k : Peaks), s.learn.state = .capture t count k none →
    exec .captureEnd s = .next (
      let stored := s.store.profile t.bank t.string
      if count < 4096 then s
      else if k.own < 2048 then
        s.learnEnds t { LastResult.failure .weak with peaks := some k }
      else { s with learn := { s.learn with state := .capture t count k (some {
        bleedThinner := if t.string = .s1 then stored.bleedThinner
          else min 8192 (32768 * k.thinner / k.own)
        bleedThicker := if t.string = .s6 then stored.bleedThicker
          else min 8192 (32768 * k.thicker / k.own)
        sens := max 1 (min 255 ((100 * 16384 + k.own - 1) / k.own)) }) } })

/-- LEARN_COMMIT: with a matching base the three measured fields of the target record are replaced, its
revision rises by 1, PEER_COMMIT is raised at the port that did not start the learn and the learn ends
DONE; else it ends FAILED STALE with its peaks and measured values; without a handed commit nothing
happens (R109, R124, log entry 2). -/
def Claims.LearnCommits : Prop :=
  ∀ s : State, s.settled = true → exec .learnCommit s = .next (
    match s.learn.state with
    | .capture t _ k (some m) =>
      let stored := s.store.profile t.bank t.string
      if t.base = stored.revision then
        let r := { stored with bleedThinner := m.bleedThinner, bleedThicker := m.bleedThicker,
                               sens := m.sens, revision := stored.revision + 1 }
        (State.raise { s with store := s.store.setProfile t.bank t.string r } t.port.other
          .peerCommit).learnEnds t
            { code := .done, reason := none, target := none, abortPort := none, peaks := some k,
              measured := some m, revision := some (stored.revision + 1) }
      else s.learnEnds t
        { LastResult.failure .stale with peaks := some k, measured := some m }
    | _ => s)

/-- A capture's sets, and the three events that end a learn or hand its commit over (R109, R122, R123, R124,
R125). -/
def Obligations.LearnCapturesAndEnds : Prop :=
  Claims.ArmTimerExpires ∧ Claims.CaptureGathersPeaks ∧ Claims.CaptureEnds ∧ Claims.LearnCommits

/-! ### Chapter 8: stream views, records and filters -/

/-- The bend value of an offset b against L = 100 bend_range: |b| limited to L, times 8192 over L rounded
half away from zero, with the sign of b, clamped to -8192..8191; saturated when |b| is above L. So an
offset of 0 gives 0, of L or more 8191, of -L or less -8192 (R140). -/
def Obligations.BendValue : Prop :=
  ∀ (range : Nat) (b : Int), 0 < range →
    let limit := range * 100
    let size := (2 * (min b.natAbs limit * 8192) + limit) / (2 * limit)
    bendValue range b = (if 0 ≤ b then min 8191 (size : Int) else -(size : Int)) ∧
    -8192 ≤ bendValue range b ∧ bendValue range b ≤ 8191 ∧
    (bendSaturated range b = true ↔ limit < b.natAbs) ∧
    bendValue range 0 = 0 ∧ ((limit : Int) ≤ b → bendValue range b = 8191) ∧
    (b ≤ -(limit : Int) → bendValue range b = -8192)

/-- A record that is to be stored. With no OPEN and no FREE packet the stream enters OVERFLOW with a gap
count of 1, LOST counts and is raised, and nothing is stored. Else it is appended to the OPEN packet,
opened at the open position if need be, the idle timer restarts, the entry of its string changes as the
table of R134 gives, and a packet that then holds its limit is closed FULL (R134, R158, R163). -/
def Obligations.RecordsAreStored : Prop :=
  ∀ (s : State) (p : Port) (r : Record),
    let t := s.streams.get p
    if t.opened = none ∧ t.settings.ringLength ≤ t.closed.length then
      s.storeRecord p r = ((s.updStream p fun k => { k with
        state := .overflow, gap := 1, lost := min 65535 (k.lost + 1) }).raise p .lost, false)
    else
      let base := t.opened.getD ⟨[], t.settings.packetLimit, 0⟩
      let view := match r.string with
        | none => t.view
        | some n =>
          let v := t.view.get n
          match r.payload with
          | .noteOn note _ _ _ => t.view.set n ⟨some note, 0, v.level⟩
          | .noteOff _ _ => t.view.set n ⟨none, 0, 0⟩
          | .bend value _ => t.view.set n ⟨v.note, value, v.level⟩
          | .level lv => t.view.set n ⟨v.note, v.bend, lv⟩
          | .snapshot note value lv => t.view.set n ⟨note, value, lv⟩
          | _ => t.view
      let u := s.updStream p fun k => { k with
        opened := some ⟨base.records ++ [r], base.limit, t.settings.idleTimeout⟩,
        openPos := if t.opened = none then (t.openPos + 1) % t.settings.ringLength else t.openPos,
        view := view }
      s.storeRecord p r =
        (if base.limit ≤ base.records.length + 1 then u.closeOpen p .full else u, true)

/-- A record goes by the first entry of the table that matches its kind and string, PASS if none does:
PASS stores it; FLUSH stores it and closes the packet that is still OPEN, unless it was lost; LATCH puts it
in the slot with LATCH, and with LATCH_OVR and the overrun counter when it overwrites; DROP discards it
(R150, R151, R160). -/
def Obligations.FilterTable : Prop :=
  ∀ (s : State) (p : Port) (r : Record),
    let t := s.streams.get p
    let hits := fun e : FilterEntry =>
      (match r.payload with
        | .noteOn .. => e.kinds.getLsbD 0
        | .noteOff .. => e.kinds.getLsbD 1
        | .bend .. => e.kinds.getLsbD 2
        | .level .. => e.kinds.getLsbD 3
        | .aux .. => e.kinds.getLsbD 4
        | .notice .. => e.kinds.getLsbD 5
        | .cue .. => e.kinds.getLsbD 6
        | _ => false) &&
      (match r.string with
        | none => true
        | some n => e.strings.getLsbD (n.number - 1))
    s.passFilter p r =
      match (t.filter.find? hits).map FilterEntry.action with
      | some .drop => (s, false)
      | some .latch =>
        let u := (s.updStream p fun k => { k with
          latch := some r,
          overruns := if k.latch = none then k.overruns else min 65535 (k.overruns + 1) }).raise p .latch
        (if t.latch = none then u else u.raise p .latchOvr, false)
      | some .flush =>
        let q := s.storeRecord p r
        (if q.2 then q.1.closeOpen p .flush else q.1, q.2)
      | _ => s.storeRecord p r

/-- A cue in the slot of a stream that is RUNNING and has room is formed with the stamp of the most recent
conversion set and put through the table; the slot is emptied whatever the table decides, and CUE_PLACED
is raised at the source port when the record is stored; else the cue waits (R153). -/
def Claims.CuesAreFormed : Prop :=
  ∀ (s : State) (p : Port),
    let t := s.streams.get p
    let room := (∃ k, t.opened = some k ∧ k.records.length < k.limit) ∨
      t.closed.length + (if t.opened = none then 0 else 1) < t.settings.ringLength
    (t.cue = none → s.formCue p = s) ∧ (t.state ≠ .running ∨ ¬ room → s.formCue p = s) ∧
    ∀ c, t.cue = some c → t.state = .running → room →
      s.formCue p =
        let q := (s.updStream p fun k => { k with cue := none }).passFilter p
          ⟨none, s.siu.stamp, .cue c.source c.code⟩
        if q.2 then q.1.raise c.source .cuePlaced else q.1

/-- What a tracker's publication forms, record by record, each against the view as the records before it
left it: START a NOTE_ON of kind PICK and the bend test; ARTIC a NOTE_ON of kind LEGATO, under RETRIGGER
behind a NOTE_OFF of the view's note, and the bend test; PITCH in STEP a step of more than 50 + step_hyst,
and the bend test; LEVEL and END only for a view that holds a note (R135, R141 to R147). -/
def Obligations.TrackerPublicationsFormRecords : Prop :=
  ∀ (s : State) (p : Port) (n : StringNo) (stamp : Stamp) (m : HeldNote) (lv : Nat),
    let on := fun (note : Nat) (kind : OnKind) (t : Stream) =>
      some (⟨some n, stamp, .noteOn note m.velocity kind (t.view.get n).note⟩ : Record)
    let off := fun (cause : OffCause) (t : Stream) =>
      (t.view.get n).note.map fun k => (⟨some n, stamp, .noteOff k cause⟩ : Record)
    let bend := fun (t : Stream) => (t.view.get n).note.bind fun k =>
      let v := bendValue t.settings.bendRange (m.pitch - 100 * k)
      let b := (t.view.get n).bend
      if t.settings.bendStep ≤ (v - b).natAbs ∨ ((v = -8192 ∨ v = 0 ∨ v = 8191) ∧ v ≠ b) then
        some (⟨some n, stamp, .bend v (bendSaturated t.settings.bendRange (m.pitch - 100 * k))⟩ : Record)
      else none
    let again := fun (t : Stream) (u : State) =>
      if t.settings.legatoPolicy = .retrigger then u.emit p (off .legato) else u
    let t := s.streams.get p
    s.formRecords p stamp (.track n .start m lv) = (s.emit p (on m.anchor .pick)).emit p bend ∧
    s.formRecords p stamp (.track n .artic m lv) =
      ((again t s).emit p (on m.anchor .legato)).emit p bend ∧
    s.formRecords p stamp (.track n .pitch m lv) =
      (if t.settings.bendMode = .step ∧
          ∃ k, (t.view.get n).note = some k ∧ 50 + t.settings.stepHyst < (m.pitch - 100 * k).natAbs then
        (again t s).emit p (on ((m.pitch + 50) / 100).toNat .step)
      else s).emit p bend ∧
    s.formRecords p stamp (.track n .level m lv) = s.emit p (fun t =>
      let v := t.view.get n
      if v.note ≠ none ∧ (v.level + t.settings.levelStep ≤ lv ∨ lv + t.settings.levelStep ≤ v.level ∨
          (lv = 0 ∧ v.level ≠ 0)) then some ⟨some n, stamp, .level lv⟩ else none) ∧
    ∀ cause, s.formRecords p stamp (.track n (.ended cause) m lv) = s.emit p (off (match cause with
      | .release => .release | .repick => .repick | .mute => .mute | .link => .link | .remap => .remap))

/-- PUBLICATION_TAKEN: the oldest publication of the maker leaves the queue. RUNNING forms its records,
each put through the table while the stream stays RUNNING and followed by a waiting cue when it was
stored, behind the closing of its packet by a FLUSH (the model's choice, log entry 22); OVERFLOW counts
it in the gap and in LOST; HELD and STOPPED ignore it. AUX and NOTICE form a record without a string
(R132, R148, R153, R164). One made during the handling of a set waits for all made before that handling,
and a row for a maker of which nothing waits changes nothing (R132; the model's choice, log entries 2
and 6). -/
def Obligations.PublicationTaken : Prop :=
  ∀ (p : Port) (m : Maker) (s : State),
    let t := s.streams.get p
    ((∀ w ∈ t.waiting, w.maker ≠ m) → exec (.publicationTaken p m) s = .next s) ∧
    (∀ (before after : List Waiting) (w : Waiting), t.waiting = before ++ w :: after → w.maker = m →
      (∀ v ∈ before, v.maker ≠ m) →
      let u := s.updStream p fun k => { k with waiting := before ++ after }
      exec (.publicationTaken p m) s = .next (
        if w.phase % 2 = 1 ∧ (t.waiting.any fun v => decide (v.phase < w.phase)) = true then s
        else match t.state with
          | .running => u.formRecords p w.stamp w.pub
          | .overflow => (u.updStream p fun k => { k with
              gap := min 65535 (k.gap + 1), lost := min 65535 (k.lost + 1) }).raise p .lost
          | _ => u)) ∧
    (∀ stamp x v, s.formRecords p stamp (.aux x v) =
      s.emit p fun _ => some ⟨none, stamp, .aux x v⟩) ∧
    (∀ stamp c first second, s.formRecords p stamp (.notice c first second) =
      s.emit p fun _ => some ⟨none, stamp, .notice c first second⟩) ∧
    ∀ r, s.emit p r =
      if t.state = .running then
        match r t with
        | none => s
        | some k =>
          let q := s.passFilter p k
          if q.2 then q.1.formCue p else q.1
      else s

/-- SET_STREAM: an unknown code is INVALID; values are clamped, packet_limit becoming 16; a change of
packet_limit or ring_length needs a STOPPED stream without CLOSED packets, else STATE; a change of
bend_mode, bend_range or step_hyst while RUNNING writes a resync sequence in the new terms; a change of
ring_length puts the open position at 0 (R136, R137, R138, R156). The OK body is that of R137 and R181, the
clamped indication and the settings, without the stream state of which R166 speaks (the model's choice,
log entry 17). -/
def Claims.SetStream : Prop :=
  ∀ (p : Port) (m : SettingsImage) (s : State), s.ready p = true →
    let t := s.streams.get p
    (2 ≤ m.bendMode.toNat ∨ 2 ≤ m.legatoPolicy.toNat →
      exec (.setStream p m) s = .next (s.awaits p 11 .invalid [])) ∧
    (m.bendMode.toNat < 2 → m.legatoPolicy.toNat < 2 →
      let lim := fun (lo hi x : Nat) => max lo (min hi x)
      let st : Settings := {
        bendMode := if m.bendMode = 0 then .smooth else .step
        bendRange := lim 1 24 m.bendRange.toNat
        stepHyst := lim 0 40 m.stepHyst.toNat
        bendStep := lim 1 512 m.bendStep.toNat
        levelStep := lim 1 32 m.levelStep.toNat
        legatoPolicy := if m.legatoPolicy = 0 then .legato else .retrigger
        idleTimeout := lim 48 48000 m.idleTimeout.toNat
        packetLimit := if m.packetLimit.toNat < 8 ∨ 32 < m.packetLimit.toNat then 16
          else m.packetLimit.toNat
        ringLength := lim 2 16 m.ringLength.toNat }
      let layout := st.packetLimit ≠ t.settings.packetLimit ∨ st.ringLength ≠ t.settings.ringLength
      let terms := st.bendMode ≠ t.settings.bendMode ∨ st.bendRange ≠ t.settings.bendRange ∨
        st.stepHyst ≠ t.settings.stepHyst
      let u := s.updStream p fun k => { k with
        settings := st, openPos := if t.settings.ringLength = st.ringLength then k.openPos else 0 }
      exec (.setStream p m) s = .next (
        if layout ∧ (t.state ≠ .stopped ∨ t.closed ≠ []) then
          s.awaits p 11 .state [BitVec.ofNat 8 t.state.code]
        else (if t.state = .running ∧ terms then u.resync p 0 else u).awaits p 11 .ok
          ((if st.image = m then 0 else 1) :: settingsBytes st.image)))

/-- SET_FILTER replaces the table, or is refused INVALID with the table unchanged for more than 8 entries,
a kind, string or action that does not exist, or a LATCH of NOTE_ON, NOTE_OFF or BEND; READ_FILTER reports
the table in order and changes nothing (R149). -/
def Claims.FilterCommands : Prop :=
  ∀ (p : Port) (s : State), s.ready p = true →
    (∀ l : List FilterImage,
      let bad := 8 < l.length ∨ ∃ e ∈ l, 128 ≤ e.kinds.toNat ∨ 64 ≤ e.strings.toNat ∨
        4 ≤ e.action.toNat ∨ (e.action = 2 ∧ e.kinds.toNat % 8 ≠ 0)
      (bad → exec (.setFilter p l) s = .next (s.awaits p (1 + 3 * l.length) .invalid [])) ∧
      (¬ bad → ∃ table : List FilterEntry,
        table.map (fun e => (e.kinds.toNat, e.strings.toNat, e.action.code)) =
          l.map (fun e => (e.kinds.toNat, e.strings.toNat, e.action.toNat)) ∧
        exec (.setFilter p l) s = .next ((s.updStream p fun k => { k with filter := table }).awaits p
          (1 + 3 * l.length) .ok []))) ∧
    exec (.readFilter p) s = .next (s.awaits p 0 .ok
      (BitVec.ofNat 8 (s.streams.get p).filter.length ::
        (s.streams.get p).filter.flatMap fun e =>
          [e.kinds.setWidth 8, e.strings.setWidth 8, BitVec.ofNat 8 e.action.code]))

/-- SET_STREAM, SET_FILTER and READ_FILTER (R137, R138, R149). -/
def Obligations.SettingsAndFilterCommands : Prop :=
  Claims.SetStream ∧ Claims.FilterCommands

/-- A record is eight bytes: kind and string, stamp, and four bytes by its kind (R132, R189). -/
def Claims.RecordBytes : Prop :=
  ∀ r : Record,
    let b1 := fun x : Nat => [BitVec.ofNat 8 x]
    let b2 := fun x : Nat => [BitVec.ofNat 8 (x / 256), BitVec.ofNat 8 x]
    let signed := fun v : Int => b2 (v % 65536).toNat
    let note := fun m : Option Nat => b1 (m.getD 255)
    let kindAndPayload : Nat × List Byte := match r.payload with
      | .noteOn m v k old => (1, b1 m ++ b1 v ++
          b1 (match k with | .pick => 0 | .legato => 1 | .step => 2) ++ note old)
      | .noteOff m c => (2, b1 m ++ b1 (match c with
          | .release => 0 | .repick => 1 | .legato => 2 | .mute => 3 | .link => 4 | .remap => 5) ++
          [0, 0])
      | .bend v saturated => (3, signed v ++ [if saturated then 1 else 0, 0])
      | .level l => (4, b1 l ++ [0, 0, 0])
      | .snapshot m v l => (5, note m ++ signed v ++ b1 l)
      | .gap lost => (6, b2 lost ++ [0, 0])
      | .cue source code => (7, b1 (match source with | .a => 0 | .b => 1) ++ b2 code.toNat ++ [0])
      | .aux x v => (8, b1 (match x with | .sin6 => 6 | .sin7 => 7) ++ b1 v ++ [0, 0])
      | .notice c first second => (9, b1 (match c with
          | .linkState => 1 | .surpriseLoss => 2 | .channelDrop => 3 | .width => 4 | .overload => 5
          | .clockLoss => 6 | .bankAdopted => 7) ++ b1 first ++ b1 second ++ [0])
    let string := match r.string with
      | none => 0
      | some n => n.number
    r.bytes.length = 8 ∧ r.bytes = b1 (16 * kindAndPayload.1 + string) ++
      b1 (r.stamp.toNat / 65536) ++ b2 r.stamp.toNat ++ kindAndPayload.2

/-- READ_LATCH returns the latched record and empties the slot, or EMPTY; the port counters are read, and
cleared to 0; READ_STREAM reports settings, view, slots and ring in 60 bytes and changes nothing (R139, R151,
R174, R193). -/
def Claims.StreamReadCommands : Prop :=
  ∀ (p : Port) (s : State), s.ready p = true →
    let t := s.streams.get p
    let b1 := fun x : Nat => [BitVec.ofNat 8 x]
    let b2 := fun x : Nat => [BitVec.ofNat 8 (x / 256), BitVec.ofNat 8 x]
    let opens : Nat := if t.opened = none then 0 else 1
    let body :=
      b1 (match t.settings.bendMode with | .smooth => 0 | .step => 1) ++ b1 t.settings.bendRange ++
      b1 t.settings.stepHyst ++ b2 t.settings.bendStep ++ b1 t.settings.levelStep ++
      b1 (match t.settings.legatoPolicy with | .legato => 0 | .retrigger => 1) ++
      b2 t.settings.idleTimeout ++ b1 t.settings.packetLimit ++ b1 t.settings.ringLength ++
      (StringNo.all.flatMap fun n => (match (t.view.get n).note with
        | none => ([0, 0] : List Byte)
        | some m => 1 :: b1 m) ++ b2 ((t.view.get n).bend % 65536).toNat ++ b1 (t.view.get n).level) ++
      (match t.latch with
        | none => ([0, 0] : List Byte)
        | some r => 1 :: b1 (match r.payload with
            | .noteOn .. => 1 | .noteOff .. => 2 | .bend .. => 3 | .level .. => 4 | .snapshot .. => 5
            | .gap .. => 6 | .cue .. => 7 | .aux .. => 8 | .notice .. => 9)) ++
      (match t.cue with
        | none => ([0, 0, 0, 0] : List Byte)
        | some c => 1 :: (b1 (match c.source with | .a => 0 | .b => 1) ++ b2 c.code.toNat)) ++
      b1 (match t.state with | .stopped => 0 | .running => 1 | .held => 2 | .overflow => 3) ++
      b1 (t.settings.ringLength - (t.closed.length + opens)) ++ b1 opens ++ b1 t.closed.length ++
      (match t.closed with
        | [] => ([0, 0] : List Byte)
        | k :: _ => [1, k.seq]) ++ [t.nextSeq] ++
      (match t.opened with
        | none => ([0, 0, 0, 0] : List Byte)
        | some k => 1 :: (b1 k.records.length ++ b2 k.idleLeft)) ++ b2 t.gap
    exec (.readLatch p) s = .next (match t.latch with
      | none => s.awaits p 0 .empty []
      | some r => (s.updStream p fun k => { k with latch := none }).awaits p 0 .ok r.bytes) ∧
    exec (.readPortCounters p) s = .next (s.awaits p 0 .ok (b2 t.lost ++ b2 t.overruns)) ∧
    exec (.clearPortCounters p) s =
      .next ((s.updStream p fun k => { k with lost := 0, overruns := 0 }).awaits p 0 .ok []) ∧
    body.length = 60 ∧ exec (.readStream p) s = .next (s.awaits p 0 .ok body)

/-- The reads of a stream, byte by byte (R139, R151, R174, R189, R193). -/
def Obligations.StreamReads : Prop :=
  Claims.StreamReadCommands ∧ Claims.RecordBytes

/-- POST_CUE handles A before B: STATE for a STOPPED stream, one with an occupied slot included (the
model's choice, log entry 28), BUSY for an occupied slot of any other, else the cue is placed and formed
at once where R153 lets it, PLACED when it left the slot and QUEUED when it waits; a set naming neither
stream, or an unused bit, is refused INVALID (R152, R178). -/
def Claims.PostCue : Prop :=
  ∀ (p : Port) (d : Byte) (code : Half) (s : State), s.ready p = true →
    (d = 0 ∨ 4 ≤ d.toNat → exec (.postCue p d code) s = .next (s.awaits p 3 .invalid [])) ∧
    (d ≠ 0 → d.toNat < 4 →
      let post := fun (named : Bool) (q : Port) (u : State) =>
        let t := u.streams.get q
        if named = false then (u, (0 : Byte))
        else if t.state = .stopped then (u, 3)
        else if t.cue ≠ none then (u, 4)
        else
          let v := (u.updStream q fun k => { k with cue := some ⟨p, code⟩ }).formCue q
          (v, if (v.streams.get q).cue = none then 1 else 2)
      let ra := post (d.getLsbD 0) .a s
      let rb := post (d.getLsbD 1) .b ra.1
      exec (.postCue p d code) s = .next (rb.1.awaits p 3 .ok [ra.2, rb.2]))

/-- POST_CUE and the forming of a cue (R152, R153); which refusal a STOPPED stream with an occupied slot
gives is the model's choice (log entry 28). -/
def Obligations.Cues : Prop :=
  Claims.CuesAreFormed ∧ Claims.PostCue

/-! ### Chapter 9: packet rings and stream control -/

/-- Closing the OPEN packet writes its header, with the next sequence number, the record count, the
cause and the first stamp, puts it behind the CLOSED ones, raises the next sequence number by 1 modulo
256 and PKT at the port; with no packet OPEN nothing happens. An idle timer that has counted out closes
with cause IDLE; one that has not does nothing (R157, R159, log entry 2). -/
def Claims.PacketsClose : Prop :=
  ∀ (p : Port) (s : State),
    let t := s.streams.get p
    (t.opened = none → (∀ cause, s.closeOpen p cause = s) ∧ exec (.idleTimerExpiry p) s = .next s) ∧
    ∀ k, t.opened = some k →
      (∀ cause,
        let packet : ClosedPacket :=
          { seq := t.nextSeq, count := k.records.length, cause := cause, limit := k.limit,
            firstStamp := (k.records.head?.map Record.stamp).getD 0, records := k.records }
        s.closeOpen p cause = (s.updStream p fun u => { u with
          opened := none, nextSeq := t.nextSeq + 1, closed := t.closed ++ [packet] }).raise p .pkt) ∧
      exec (.idleTimerExpiry p) s = .next (if k.idleLeft = 0 then s.closeOpen p .idle else s)

/-- FETCH returns the oldest CLOSED packet, header then records in stored order, or EMPTY, and changes
nothing (R161, R190). -/
def Claims.Fetch : Prop :=
  ∀ (p : Port) (s : State), s.ready p = true → exec (.fetch p) s = .next (
    match (s.streams.get p).closed with
    | [] => s.awaits p 0 .empty []
    | k :: _ => s.awaits p 0 .ok ([k.seq, BitVec.ofNat 8 k.count, BitVec.ofNat 8 k.cause.code,
        BitVec.ofNat 8 k.limit] ++ be24 k.firstStamp ++ [0] ++ k.records.flatMap Record.bytes))

/-- RELEASE: EMPTY without a CLOSED packet, STALE with the oldest number for another one; else the
oldest CLOSED packet is freed, and then a waiting cue is formed in RUNNING, the resync sequence with the
gap count is written in OVERFLOW, and nothing more happens in HELD and STOPPED (R162, R164). The count
of CLOSED packets left is that of the freeing, before a packet that the recovery closes (the model's
choice, log entry 21), and the body has no stream state behind a recovery, of which R166 speaks (the
model's choice, log entry 17). -/
def Claims.Release : Prop :=
  ∀ (p : Port) (seq : Byte) (s : State), s.ready p = true → exec (.release p seq) s = .next (
    let t := s.streams.get p
    match t.closed with
    | [] => s.awaits p 1 .empty []
    | k :: rest =>
      if k.seq ≠ seq then s.awaits p 1 .stale [k.seq]
      else
        let u := s.updStream p fun x => { x with closed := rest }
        (match t.state with
          | .running => u.formCue p
          | .overflow => u.resync p t.gap
          | _ => u).awaits p 1 .ok [seq, BitVec.ofNat 8 rest.length])

/-- A conversion set counts the idle timer of an OPEN packet down by one; one that had counted out
before the set closes its packet with cause IDLE, and the set meets the ring without it. No other packet
changes (R159; that the expiry is taken by the next set at the latest: log entry 1). -/
def Claims.ConversionSetCountsTheIdleTimer : Prop :=
  ∀ (src : SampleSource) (pins : SetInputs) (order : SetOrder) (s t : State) (p : Port),
    (src = .internalTick ↔ s.siu.choice = .internal) →
    exec (.conversionSet src pins order) s = .next t →
    let a := s.streams.get p
    let b := t.streams.get p
    match a.opened with
    | none => b.opened = none ∧ b.closed = a.closed ∧ b.nextSeq = a.nextSeq
    | some k =>
      if k.idleLeft = 0 then
        b.opened = none ∧ b.nextSeq = a.nextSeq + 1 ∧ Flag.pkt.isSet (t.ports.get p).flags = true ∧
        b.closed = a.closed ++
          [{ seq := a.nextSeq, count := k.records.length, cause := .idle, limit := k.limit,
             firstStamp := (k.records.head?.map Record.stamp).getD 0, records := k.records }]
      else
        b.opened = some { k with idleLeft := k.idleLeft - 1 } ∧ b.closed = a.closed ∧
        b.nextSeq = a.nextSeq

/-- Closing, the idle timer, FETCH and RELEASE, with the bytes of the records (R157, R159, R161, R162,
R189). The response of a RELEASE that recovers from OVERFLOW is that of R162 and R181, without a stream
state (the model's choice, log entry 17). -/
def Obligations.PacketsCloseAndAreReleased : Prop :=
  Claims.PacketsClose ∧ Claims.Fetch ∧ Claims.Release ∧ Claims.ConversionSetCountsTheIdleTimer ∧
  Claims.RecordBytes

/-- A resync sequence: GAP(lost) and the SNAPSHOTs of strings 1 to 6, each with the port terms of its
context and the stamp of the most recent conversion set, go into the OPEN packet when it has room for
seven, else that one is closed FULL and they go into the next FREE packet; the packet is closed RESYNC,
every view entry is its string's port terms, the stream is RUNNING with a gap count of 0, and a waiting cue
follows. With no FREE packet nothing is written and the stream is in OVERFLOW with a gap count of 0
(R134, R140, R163, R165, R166). -/
def Obligations.ResyncSequence : Prop :=
  ∀ (s : State) (p : Port) (lost : Nat),
    let room := match (s.streams.get p).opened with
      | none => false
      | some k => decide (k.records.length + 7 ≤ k.limit)
    let u := if room then s else s.closeOpen p .full
    let t := u.streams.get p
    let terms := fun n => match (s.trackers.get n).note with
      | none => (⟨none, 0, 0⟩ : ViewEntry)
      | some h =>
        let note := if t.settings.bendMode = .smooth then h.anchor else ((h.pitch + 50) / 100).toNat
        ⟨some note, bendValue t.settings.bendRange (h.pitch - 100 * note),
          min 127 ((s.trackers.get n).e / 256)⟩
    let records := (t.opened.map OpenPacket.records).getD [] ++
      (⟨none, s.siu.stamp, .gap lost⟩ : Record) :: StringNo.all.map fun n =>
        ⟨some n, s.siu.stamp, .snapshot (terms n).note (terms n).bend (terms n).level⟩
    let packet : ClosedPacket :=
      { seq := t.nextSeq, count := records.length, cause := .resync,
        limit := (t.opened.map OpenPacket.limit).getD t.settings.packetLimit,
        firstStamp := (records.head?.map Record.stamp).getD 0, records := records }
    s.resync p lost =
      if room = false ∧ t.settings.ringLength ≤ t.closed.length then
        u.updStream p fun k => { k with state := .overflow, gap := 0 }
      else ((u.updStream p fun k => { k with
        state := .running, gap := 0, opened := none, nextSeq := t.nextSeq + 1,
        openPos := if t.opened = none then (t.openPos + 1) % t.settings.ringLength else t.openPos,
        view := Six.of terms, closed := t.closed ++ [packet] }).raise p .pkt).formCue p

/-- STREAM_CONTROL START, RESUME and RESYNC: each writes a resync sequence with lost count 0 in the state
that takes it (STOPPED, HELD, RUNNING with the OPEN packet closed RESYNC first) and answers OK with the
stream state after it; RESYNC in OVERFLOW answers OK and changes nothing; any other state refuses with
STATE (R168, R169, R171, R172). -/
def Claims.StreamStartResumeResync : Prop :=
  ∀ (p : Port) (s : State), s.ready p = true →
    let code := fun u : State => [BitVec.ofNat 8 (u.streams.get p).state.code]
    let refused := (.next (s.awaits p 1 .state (code s)) : Result)
    let taken := fun u : State => (.next (u.awaits p 1 .ok (code u)) : Result)
    exec (.streamStart p) s =
      (if (s.streams.get p).state = .stopped then taken (s.resync p 0) else refused) ∧
    exec (.streamResume p) s =
      (if (s.streams.get p).state = .held then taken (s.resync p 0) else refused) ∧
    exec (.streamResync p) s = match (s.streams.get p).state with
      | .running => taken ((s.closeOpen p .resync).resync p 0)
      | .overflow => taken s
      | _ => refused

/-- STREAM_CONTROL STOP closes an OPEN packet STOP and leads to STOPPED with the gap count 0 in every state;
HOLD closes an OPEN packet HOLD and leads from RUNNING to HELD, and is refused STATE elsewhere; RESET brings
the stream to its reset state with settings, filter table and waiting publications kept, and clears PKT,
LOST, LATCH and LATCH_OVR at the port (R170, R171, R173; the waiting publications: log entry 6). -/
def Claims.StreamStopHoldReset : Prop :=
  ∀ (p : Port) (s : State), s.ready p = true →
    exec (.streamStop p) s = .next (((s.closeOpen p .stop).updStream p fun k => { k with
      state := .stopped, gap := 0 }).awaits p 1 .ok [0]) ∧
    exec (.streamHold p) s = .next (
      if (s.streams.get p).state = .running then
        ((s.closeOpen p .hold).updStream p fun k => { k with state := .held }).awaits p 1 .ok [2]
      else s.awaits p 1 .state [BitVec.ofNat 8 (s.streams.get p).state.code]) ∧
    exec (.streamReset p) s = .next (State.awaits
      ((s.updStream p fun k =>
        { state := .stopped, settings := k.settings, filter := k.filter,
          view := Six.of fun _ => ⟨none, 0, 0⟩, latch := none, cue := none, closed := [],
          opened := none, openPos := 0, nextSeq := 0, gap := 0, lost := 0, overruns := 0,
          waiting := k.waiting }).updPort p fun q => { q with flags := q.flags &&& 0xFFF0 }) p 1 .ok [0])

/-- STREAM_CONTROL with subcommand 0 to 5 is START, STOP, HOLD, RESUME, RESYNC or RESET; any other is
refused INVALID with an empty body and changes nothing (R168). That such a frame comes under the row
UNKNOWN_COMMAND is the model's choice (log entry 12). -/
def Claims.StreamControlSubcommands : Prop :=
  ∀ (p : Port) (b : Byte),
    (b = 0 → frameRow p 0x64 [b] = .streamStart p) ∧ (b = 1 → frameRow p 0x64 [b] = .streamStop p) ∧
    (b = 2 → frameRow p 0x64 [b] = .streamHold p) ∧ (b = 3 → frameRow p 0x64 [b] = .streamResume p) ∧
    (b = 4 → frameRow p 0x64 [b] = .streamResync p) ∧ (b = 5 → frameRow p 0x64 [b] = .streamReset p) ∧
    (6 ≤ b.toNat → frameRow p 0x64 [b] = .unknownCommand p 0x64 [b] ∧
      ∀ s : State, s.ready p = true →
        exec (.unknownCommand p 0x64 [b]) s = .next (s.awaits p 1 .invalid []))

/-- The six STREAM_CONTROL commands, and a subcommand that names none of them (R168 to R173). -/
def Obligations.StreamControl : Prop :=
  Claims.StreamStartResumeResync ∧ Claims.StreamStopHoldReset ∧ Claims.StreamControlSubcommands

/-! ### Chapter 10: ports and commands -/

/-- The transaction of a port: CSx falling begins one in RECEIVING with no byte stored; CSx rising ends
it in IDLE, discards a partial frame and loses what is unsent, while a command handed over stays with
its owner; the owner's answer is queued in WAITING and discarded in any other state. A level that does
not change is no event (R177; when answers come, and a row without an event: log entries 9 and 2). -/
def Claims.ChipSelectAndAnswer : Prop :=
  ∀ (p : Port) (s : State),
    let q := s.ports.get p
    exec (.csFall p) s = .next (s.updPort p fun _ =>
      if q.csLow then q
      else { q with csLow := true, txn := .receiving, stored := [], byteCount := 0, answer := none,
                    sent := 0 }) ∧
    exec (.csRise p) s = .next (s.updPort p fun _ =>
      if q.csLow then
        { q with csLow := false, txn := .idle, stored := [], byteCount := 0, answer := none, sent := 0 }
      else q) ∧
    exec (.responseReady p) s = .next (s.updPort p fun _ =>
      match q.handed with
      | none => q
      | some r =>
        if q.txn = .waiting then
          { q with txn := .answering, handed := none, answer := some r, sent := 0 }
        else { q with handed := none })

/-- A byte clocked at a selected port. In RECEIVING it is stored, counted and answered 0x00, and the byte that
completes the frame takes the command; in ANSWERING the next byte of the response is sent, status, two bytes
of length, body, and with the last one the transaction is DONE; in every other state it is filler, answered
0x00. A port that is not selected takes none (R176, R177, R178). -/
def Claims.BytesAreClocked : Prop :=
  ∀ (p : Port) (b : Byte) (s : State),
    let q := s.ports.get p
    (q.csLow = false → s.clockByte p b = .next s) ∧
    (q.csLow = true →
      (q.txn = .receiving →
        (decodeFrame p (q.stored ++ [b]) = none → s.clockByte p b = .next (s.updPort p fun q => { q with
          stored := q.stored ++ [b], byteCount := q.stored.length + 1, sdo := 0 })) ∧
        ∀ c, decodeFrame p (q.stored ++ [b]) = some c → s.clockByte p b =
          exec c (s.updPort p fun q => { q with stored := [], byteCount := 0 })) ∧
      (q.txn = .idle ∨ q.txn = .waiting ∨ q.txn = .done →
        s.clockByte p b = .next (s.updPort p fun q => { q with sdo := 0 })) ∧
      ∀ r, q.txn = .answering → q.answer = some r →
        let status : Byte := match r.status with
          | .ok => 0x80 | .empty => 0x81 | .busy => 0x82 | .stale => 0x83 | .invalid => 0x84
          | .state => 0x85 | .locked => 0x86 | .unknown => 0x87 | .malformed => 0x88
        let bytes := [status, BitVec.ofNat 8 (r.body.length / 256), BitVec.ofNat 8 r.body.length] ++ r.body
        s.clockByte p b = .next (s.updPort p fun q => { q with
          sdo := (bytes[q.sent]?).getD 0, sent := q.sent + 1,
          txn := if q.sent + 1 < bytes.length then .answering else .done }))

/-- A frame whose bytes are clocked one by one is its row, with every argument: the row acts at the last byte.
No row takes a byte that waits (R177, R178; the bytes that wait: log entry 7). -/
def Claims.FramesByteByByte : Prop :=
  (∀ (p : Port) (code : Byte) (args : List Byte) (s : State), (s.ports.get p).csLow = true →
    (s.ports.get p).receives = true → args.length ≤ 255 →
    s.clockBytes p (code :: BitVec.ofNat 8 args.length :: args) = exec (frameRow p code args) s) ∧
  ∀ (c : Instr) (s t : State), exec c s = .next t →
    ∀ p, (t.ports.get p).sdi = (s.ports.get p).sdi

/-- The transaction of a port, from the fall of CSx through its bytes to the rise (R176, R177, R178). -/
def Obligations.Transactions : Prop :=
  Claims.ChipSelectAndAnswer ∧ Claims.BytesAreClocked ∧ Claims.FramesByteByByte

/-- The frames that no block takes. A code of no command is answered UNKNOWN and a wrong length
MALFORMED; any frame completed while the port's earlier command is with its owner is answered BUSY; all
with an empty body and nothing else changed. Outside RECEIVING the bytes are filler (R177, R178; log
entries 8 and 25), and behind stored bytes no whole frame comes (log entry 7). -/
def Obligations.FramesThePortAnswers : Prop :=
  (∀ (p : Port) (code : Byte) (args : List Byte) (s : State), s.listens p = true →
    (badSubcommand code args = false →
      exec (.unknownCommand p code args) s = .next (s.answers p args.length .unknown)) ∧
    exec (.malformedFrame p code args) s = .next (s.answers p args.length .malformed)) ∧
  (∀ (c : Instr) (p : Port) (code : Byte) (args : List Byte) (s : State),
    frameOf? c = some (p, code, args) → (s.ports.get p).receives = true →
    (s.ports.get p).handed ≠ none → exec c s = .next (s.answers p args.length .busy)) ∧
  ∀ (c : Instr) (p : Port) (code : Byte) (args : List Byte) (s : State),
    frameOf? c = some (p, code, args) →
    (s.ports.get p).txn ≠ .receiving ∨ (s.ports.get p).stored ≠ [] → exec c s = .next s

/-- IDENTIFY answers 616, family 0x5A, revision 1 and the port it came by, and changes nothing. READ_STATUS
answers with the port's flags and mask, the stamp, the clock, the link, the LINK counter, the learn state
and the port's own stream state in their order; the two ports' answers differ in their own flags, mask and
stream state alone; it changes no state and clears no flag (R182). -/
def Obligations.IdentifyAndStatus : Prop :=
  ∀ (p : Port) (s : State), s.ready p = true →
    let b1 := fun n : Nat => BitVec.ofNat 8 n
    let b2 := fun w : Half => [w.extractLsb' 8 8, w.extractLsb' 0 8]
    let truth := fun x : Bool => if x then (1 : Byte) else 0
    let common := [s.siu.stamp.extractLsb' 16 8, s.siu.stamp.extractLsb' 8 8, s.siu.stamp.extractLsb' 0 8,
      b1 s.siu.choice.code, truth s.siu.lock, truth s.siu.fallback,
      (match s.siu.rate with | .hz48000 => 0 | .hz44100 => 1), b1 s.link.state.code,
      truth s.link.presence, truth s.link.supply, truth s.link.expect, b1 s.link.width] ++
      b2 s.link.linkCounter ++ [b1 s.learn.state.code]
    exec (.identify p) s = .next (s.awaits p 0 .ok
      [0x02, 0x68, 0x5A, 1, match p with | .a => 0 | .b => 1]) ∧
    exec (.readStatus p) s = .next (s.awaits p 0 .ok
      (b2 (s.ports.get p).flags ++ b2 (s.ports.get p).mask ++ common ++
        [b1 (s.streams.get p).state.code]))

/-- CLEAR_FLAGS clears, at the sending port alone, the flags whose bit is 1 in the word, ignores bits 10 to
15 and answers OK with the word after it. A flag raised before it is cleared by it and one raised after it
is set again (R184). -/
def Obligations.ClearFlagsAtTheSendingPort : Prop :=
  (∀ (p : Port) (word : Half) (s : State), s.ready p = true →
    let after := (s.ports.get p).flags &&& ~~~(word &&& 0x03FF)
    exec (.clearFlags p word) s = .next (State.awaits
      (s.updPort p fun q => { q with flags := after }) p 2 .ok
      [after.extractLsb' 8 8, after.extractLsb' 0 8])) ∧
  ∀ (p : Port) (word : Half) (f : Flag) (s : State), s.ready p = true →
    ∃ t u, exec (.clearFlags p word) s = .next t ∧ exec (.clearFlags p word) (s.raise p f) = .next u ∧
      (∀ g : Flag, g.isSet (t.ports.get p).flags =
        (g.isSet (s.ports.get p).flags && !word.getLsbD g.bit)) ∧
      t.ports.get p.other = s.ports.get p.other ∧
      (word.getLsbD f.bit = true → f.isSet (u.ports.get p).flags = false) ∧
      f.isSet ((t.raise p f).ports.get p).flags = true

/-- SET_ATTN_MASK stores bits 0 to 9 of the word at the sending port and answers with the mask stored; the
attention line is low exactly while a flag is set whose mask bit is 1 (R185). Raising a flag sets it, keeps
every other and goes past the mask (R183). -/
def Obligations.MaskAndAttention : Prop :=
  (∀ (p : Port) (word : Half) (s : State), s.ready p = true →
    let mask := word &&& 0x03FF
    exec (.setAttnMask p word) s = .next (State.awaits
      (s.updPort p fun q => { q with mask := mask }) p 2 .ok
      [mask.extractLsb' 8 8, mask.extractLsb' 0 8])) ∧
  (∀ q : PortIf, q.ok = true →
    (q.attnLow = true ↔ ∃ f : Flag, f.isSet q.flags = true ∧ f.isSet q.mask = true)) ∧
  ∀ (p : Port) (f g : Flag) (s : State),
    g.isSet ((s.raise p f).ports.get p).flags = (decide (g = f) || g.isSet (s.ports.get p).flags) ∧
    ((s.raise p f).ports.get p).mask = (s.ports.get p).mask ∧
    (s.raise p f).ports.get p.other = s.ports.get p.other

/-- READ_CONTEXT answers the 70 bytes of the string's context in their order, and INVALID for a number
outside 1 to 6; it changes nothing (R98, R193). -/
def Claims.ReadContext : Prop :=
  ∀ (p : Port) (s : State), s.ready p = true →
    (∀ string : Byte, string = 0 ∨ 7 ≤ string.toNat →
      exec (.readContext p string) s = .next (s.awaits p 1 .invalid [])) ∧
    ∀ n : StringNo,
      let t := s.trackers.get n
      let c := t.copy
      let b1 := fun x : Nat => [BitVec.ofNat 8 x]
      let b2 := fun x : Nat => [BitVec.ofNat 8 (x / 256), BitVec.ofNat 8 x]
      let b3 := fun x : Nat => BitVec.ofNat 8 (x / 65536) :: b2 x
      let slot := fun k : Nat => b2 ((t.history[k]?).getD 0)
      let body :=
        b1 t.state.code ++
        (match t.note with
          | none => [0, 0, 0, 0, 0, 0, 0]
          | some h => [1] ++ b1 h.anchor ++ [1] ++ be16 (BitVec.ofInt 16 h.pitch) ++ [1] ++
              b1 h.velocity) ++
        b2 t.e ++ b1 (min 127 (t.e / 256)) ++ [t.articulation] ++ b3 t.onsetStamp.toNat ++
        b2 t.onsetPeak ++ b1 t.bank.code ++ b1 (s.store.requested.get n).code ++
        b2 c.windowLow ++ b2 c.windowHigh ++ b1 c.gateOn ++ b1 c.gateOff ++ b1 c.repick ++
        b1 c.sens ++ b1 c.decay ++ b2 c.releaseHold ++ b1 c.tol ++ b2 c.onsetTimeout ++ b2 c.jump ++
        b2 c.floorUsed ++ b3 c.gOn ++ b3 c.gOff ++
        (match t.onsetTimer with | none => [0, 0, 0] | some k => 1 :: b2 k) ++
        (match t.releaseTimer with | none => [0, 0, 0] | some k => 1 :: b2 k) ++
        (match t.levelTimer with | none => [0, 0] | some k => 1 :: b1 k) ++
        [if t.armed then 1 else 0] ++
        (match t.lastMark with
          | none => [0, 0, 0, 0, 0]
          | some k => 1 :: (b1 (k.toNat / 16777216) ++ b3 k.toNat)) ++
        b2 t.stall ++ b1 t.history.length ++ slot 0 ++ slot 1 ++ slot 2 ++ b2 t.curPeak ++
        b2 t.prevPeak
      body.length = 70 ∧
      exec (.readContext p (BitVec.ofNat 8 n.number)) s = .next (s.awaits p 1 .ok body)

/-- READ_COUNTERS answers SAT, NOISE, REJECT and GHOST of a string or CLIP and STUCK of an input, and
INVALID for a selector or number that names neither; READ_FLOORS answers each input's floor, dropped flag
and whether it is analog, the link state, and the window progress in SETTLING or 0. Neither changes anything
(R33, R65, R181). -/
def Claims.ReadCountersAndFloors : Prop :=
  ∀ (p : Port) (s : State), s.ready p = true →
    (∀ selector number : Byte, 2 ≤ selector.toNat ∨
        (selector = 0 ∧ (number = 0 ∨ 7 ≤ number.toNat)) ∨ (selector = 1 ∧ 8 ≤ number.toNat) →
      exec (.readCounters p selector number) s = .next (s.awaits p 2 .invalid [])) ∧
    (∀ n : StringNo,
      let t := s.trackers.get n
      exec (.readCounters p 0 (BitVec.ofNat 8 n.number)) s = .next (s.awaits p 2 .ok
        (be16 (s.cond.sat.get n) ++ be16 t.noise ++ be16 t.reject ++ be16 t.ghost))) ∧
    (∀ i : Sin,
      let u := s.siu.inputs.get i
      exec (.readCounters p 1 (BitVec.ofNat 8 i.number)) s =
        .next (s.awaits p 2 .ok (be16 u.clip ++ be16 u.stuck))) ∧
    exec (.readFloors p) s = .next (s.awaits p 0 .ok
      ((Sin.all.flatMap fun i =>
          be16 (BitVec.ofNat 16 (s.link.floors.get i)) ++ [if s.link.dropped.get i then 1 else 0,
            if i.number < s.store.global.na then 1 else 0]) ++
        [BitVec.ofNat 8 s.link.state.code] ++
        be16 (BitVec.ofNat 16 (if s.link.state = .settling then s.link.progress else 0))))

/-- The reads of a string's context, of the counters and of the floors (R33, R65, R98, R193). -/
def Obligations.ReadsOfContextsAndFloors : Prop :=
  Claims.ReadContext ∧ Claims.ReadCountersAndFloors

/-- Frames and commands agree: the bytes of a well-formed command frame, with whatever filler behind them,
are read as that command with every operand. (A BUSY_FRAME is any such frame, met while an earlier command
is with its owner. A frame with an unknown subcommand is a row UNKNOWN_COMMAND by log entry 12.) -/
def Obligations.FrameRoundTrip : Prop :=
  ∀ (c : Instr) (p : Port) (code : Byte) (args : List Byte),
    frameOf? c = some (p, code, args) → c.wellFormed = true → c ≠ .busyFrame p code args →
    args.length ≤ 255 ∧ ∃ bytes, encodeFrame c = some bytes ∧
      bytes = code :: BitVec.ofNat 8 args.length :: args ∧
      ∀ filler, decodeFrame p (bytes ++ filler) = some c

/-! ### Invariants that every step keeps -/

/-- Every step keeps the Port Interfaces as R177, R183 and R185 say: ten bits of flags and mask, IDLE
while not selected, a frame stored in RECEIVING alone and counted, and a response queued in ANSWERING
and DONE alone, sent in part and whole. -/
def Obligations.StepsKeepPorts : Prop :=
  ∀ s t : State, s.portsOk = true → step s = .next t → t.portsOk = true

/-- Every step keeps the records legal: fields in their ranges, no window empty, a map of distinct analog
inputs, and an accumulator for each analog input and no other (R37, R100, R101, R102). -/
def Obligations.StepsKeepRecords : Prop :=
  ∀ s t : State, s.recordsOk = true → step s = .next t → t.recordsOk = true

/-- With legal records, every step keeps the trackers: a note in SOUNDING and RELEASING alone and in its
ranges, each timer in its states alone, E 0 in MUTED, G_off below G_on, and intervals, peaks and the stall
count in their ranges (R51, R58, R59, R60, R74, R76, R78). -/
def Obligations.StepsKeepTrackers : Prop :=
  ∀ s t : State, s.recordsOk = true → s.trackersOk = true → step s = .next t → t.trackersOk = true

/-- With legal records, every step keeps the link monitor and what hangs on it: supply and presence as the
state says, EXPECT in ACTIVE alone, the width the number of usable strings, a tracker out of MUTED exactly
when its string is usable, and a usable target for a learn that can be ended (R17, R24, R25, R28, R78,
R79, R127). -/
def Obligations.StepsKeepTheLink : Prop :=
  ∀ s t : State, s.recordsOk = true → s.linkOk = true → step s = .next t → t.linkOk = true

/-- Every step keeps the Stream Units: never more packets than the ring holds, none FREE in OVERFLOW, an
OPEN packet in RUNNING alone and below its limit, CLOSED packets of consecutive numbers with 1 record to
their limit, settings in their ranges, and counts that stop at 65535 (R134, R136, R156, R157, R158, R163,
R164). -/
def Obligations.StepsKeepStreams : Prop :=
  ∀ s t : State, s.streamsOk = true → step s = .next t → t.streamsOk = true
end

