-- ==== Sys2Proof/Laws/State.lean ====
section
/-!
SUPPORT. The small lemmas of the indexed records and of the shared changes of State: what each changes
and what it leaves as it was, so that no later proof unfolds a record update.
-/

namespace Sys2Proof

/-! ### Indexed records -/

@[simp] theorem Two.get_set_same {α : Type} (v : Two α) (p : Port) (x : α) : (v.set p x).get p = x := by
  cases p <;> rfl

theorem Two.get_set_ne {α : Type} (v : Two α) {p q : Port} (x : α) (h : q ≠ p) :
    (v.set p x).get q = v.get q := by
  cases p <;> cases q <;> first | rfl | exact absurd rfl h

theorem Two.get_set {α : Type} (v : Two α) (p q : Port) (x : α) :
    (v.set p x).get q = if q = p then x else v.get q := by
  cases p <;> cases q <;> rfl

@[simp] theorem Two.set_get {α : Type} (v : Two α) (p : Port) : v.set p (v.get p) = v := by
  cases p <;> rfl

@[simp] theorem Two.set_set {α : Type} (v : Two α) (p : Port) (x y : α) :
    (v.set p x).set p y = v.set p y := by
  cases p <;> rfl

@[simp] theorem Two.bank_setBank_same {α : Type} (v : Two α) (k : Bank) (x : α) :
    (v.setBank k x).bank k = x := by
  cases k <;> rfl

theorem Two.bank_setBank {α : Type} (v : Two α) (k l : Bank) (x : α) :
    (v.setBank k x).bank l = if l = k then x else v.bank l := by
  cases k <;> cases l <;> rfl

@[simp] theorem Six.get_set_same {α : Type} (v : Six α) (n : StringNo) (x : α) :
    (v.set n x).get n = x := by
  cases n <;> rfl

theorem Six.get_set {α : Type} (v : Six α) (n m : StringNo) (x : α) :
    (v.set n x).get m = if m = n then x else v.get m := by
  cases n <;> cases m <;> rfl

theorem Six.get_set_ne {α : Type} (v : Six α) {n m : StringNo} (x : α) (h : m ≠ n) :
    (v.set n x).get m = v.get m := by
  rw [Six.get_set, if_neg h]

@[simp] theorem Six.set_get {α : Type} (v : Six α) (n : StringNo) : v.set n (v.get n) = v := by
  cases n <;> rfl

@[simp] theorem Six.set_set {α : Type} (v : Six α) (n : StringNo) (x y : α) :
    (v.set n x).set n y = v.set n y := by
  cases n <;> rfl

@[simp] theorem Six.get_of {α : Type} (f : StringNo → α) (n : StringNo) : (Six.of f).get n = f n := by
  cases n <;> rfl

@[simp] theorem Eight.get_set_same {α : Type} (v : Eight α) (i : Sin) (x : α) :
    (v.set i x).get i = x := by
  cases i <;> rfl

theorem Eight.get_set {α : Type} (v : Eight α) (i j : Sin) (x : α) :
    (v.set i x).get j = if j = i then x else v.get j := by
  cases i <;> cases j <;> rfl

theorem Eight.get_set_ne {α : Type} (v : Eight α) {i j : Sin} (x : α) (h : j ≠ i) :
    (v.set i x).get j = v.get j := by
  rw [Eight.get_set, if_neg h]

@[simp] theorem Eight.get_of {α : Type} (f : Sin → α) (i : Sin) : (Eight.of f).get i = f i := by
  cases i <;> rfl

@[simp] theorem Eight.of_get {α : Type} (v : Eight α) : Eight.of v.get = v := rfl

@[simp] theorem Six.of_get {α : Type} (v : Six α) : Six.of v.get = v := rfl

theorem StringNo.mem_all (n : StringNo) : n ∈ StringNo.all := by cases n <;> decide

theorem Sin.mem_all (i : Sin) : i ∈ Sin.all := by cases i <;> decide

namespace Machine

/-! ### Changes of one Port Interface -/

@[simp] theorem State.updPort_siu (s : State) (p f) : (s.updPort p f).siu = s.siu := rfl
@[simp] theorem State.updPort_link (s : State) (p f) : (s.updPort p f).link = s.link := rfl
@[simp] theorem State.updPort_cond (s : State) (p f) : (s.updPort p f).cond = s.cond := rfl
@[simp] theorem State.updPort_trackers (s : State) (p f) : (s.updPort p f).trackers = s.trackers := rfl
@[simp] theorem State.updPort_store (s : State) (p f) : (s.updPort p f).store = s.store := rfl
@[simp] theorem State.updPort_learn (s : State) (p f) : (s.updPort p f).learn = s.learn := rfl
@[simp] theorem State.updPort_streams (s : State) (p f) : (s.updPort p f).streams = s.streams := rfl
@[simp] theorem State.updPort_phase (s : State) (p f) : (s.updPort p f).phase = s.phase := rfl
@[simp] theorem State.updPort_pending (s : State) (p f) : (s.updPort p f).pending = s.pending := rfl
@[simp] theorem State.updPort_ports_same (s : State) (p f) :
    (s.updPort p f).ports.get p = f (s.ports.get p) := by simp [State.updPort]
theorem State.updPort_ports (s : State) (p q f) :
    (s.updPort p f).ports.get q = if q = p then f (s.ports.get q) else s.ports.get q := by
  by_cases h : q = p
  · subst h; simp
  · simp [State.updPort, Two.get_set, h]

/-! ### Raising a flag -/

@[simp] theorem State.raise_siu (s : State) (p f) : (s.raise p f).siu = s.siu := rfl
@[simp] theorem State.raise_link (s : State) (p f) : (s.raise p f).link = s.link := rfl
@[simp] theorem State.raise_cond (s : State) (p f) : (s.raise p f).cond = s.cond := rfl
@[simp] theorem State.raise_trackers (s : State) (p f) : (s.raise p f).trackers = s.trackers := rfl
@[simp] theorem State.raise_store (s : State) (p f) : (s.raise p f).store = s.store := rfl
@[simp] theorem State.raise_learn (s : State) (p f) : (s.raise p f).learn = s.learn := rfl
@[simp] theorem State.raise_streams (s : State) (p f) : (s.raise p f).streams = s.streams := rfl
@[simp] theorem State.raise_phase (s : State) (p f) : (s.raise p f).phase = s.phase := rfl
@[simp] theorem State.raise_pending (s : State) (p f) : (s.raise p f).pending = s.pending := rfl

@[simp] theorem State.raiseBoth_siu (s : State) (f) : (s.raiseBoth f).siu = s.siu := rfl
@[simp] theorem State.raiseBoth_link (s : State) (f) : (s.raiseBoth f).link = s.link := rfl
@[simp] theorem State.raiseBoth_cond (s : State) (f) : (s.raiseBoth f).cond = s.cond := rfl
@[simp] theorem State.raiseBoth_trackers (s : State) (f) : (s.raiseBoth f).trackers = s.trackers := rfl
@[simp] theorem State.raiseBoth_store (s : State) (f) : (s.raiseBoth f).store = s.store := rfl
@[simp] theorem State.raiseBoth_learn (s : State) (f) : (s.raiseBoth f).learn = s.learn := rfl
@[simp] theorem State.raiseBoth_streams (s : State) (f) : (s.raiseBoth f).streams = s.streams := rfl
@[simp] theorem State.raiseBoth_phase (s : State) (f) : (s.raiseBoth f).phase = s.phase := rfl
@[simp] theorem State.raiseBoth_pending (s : State) (f) : (s.raiseBoth f).pending = s.pending := rfl

/-- Raising a flag at both ports changes only the two flag words. -/
theorem State.raiseBoth_port (s : State) (f : Flag) (p : Port) :
    (s.raiseBoth f).ports.get p =
      { s.ports.get p with flags := raiseIn (s.ports.get p).flags f } := by
  cases p <;> rfl

/-- Raising a flag at one port changes only that port's flag word. -/
theorem State.raise_port (s : State) (f : Flag) (p q : Port) :
    (s.raise p f).ports.get q =
      if q = p then { s.ports.get q with flags := raiseIn (s.ports.get q).flags f }
      else s.ports.get q := by
  cases p <;> cases q <;> rfl

/-! ### Changes of one tracker -/

@[simp] theorem State.updTracker_siu (s : State) (n f) : (s.updTracker n f).siu = s.siu := rfl
@[simp] theorem State.updTracker_link (s : State) (n f) : (s.updTracker n f).link = s.link := rfl
@[simp] theorem State.updTracker_cond (s : State) (n f) : (s.updTracker n f).cond = s.cond := rfl
@[simp] theorem State.updTracker_store (s : State) (n f) : (s.updTracker n f).store = s.store := rfl
@[simp] theorem State.updTracker_learn (s : State) (n f) : (s.updTracker n f).learn = s.learn := rfl
@[simp] theorem State.updTracker_streams (s : State) (n f) : (s.updTracker n f).streams = s.streams := rfl
@[simp] theorem State.updTracker_ports (s : State) (n f) : (s.updTracker n f).ports = s.ports := rfl
@[simp] theorem State.updTracker_phase (s : State) (n f) : (s.updTracker n f).phase = s.phase := rfl
@[simp] theorem State.updTracker_pending (s : State) (n f) : (s.updTracker n f).pending = s.pending := rfl
@[simp] theorem State.updTracker_same (s : State) (n f) :
    (s.updTracker n f).trackers.get n = f (s.trackers.get n) := by simp [State.updTracker]
theorem State.updTracker_get (s : State) (n m f) :
    (s.updTracker n f).trackers.get m = if m = n then f (s.trackers.get m) else s.trackers.get m := by
  by_cases h : m = n
  · subst h; simp
  · simp [State.updTracker, Six.get_set, h]

/-! ### Changes of one Stream Unit -/

@[simp] theorem State.updStream_siu (s : State) (p f) : (s.updStream p f).siu = s.siu := rfl
@[simp] theorem State.updStream_link (s : State) (p f) : (s.updStream p f).link = s.link := rfl
@[simp] theorem State.updStream_cond (s : State) (p f) : (s.updStream p f).cond = s.cond := rfl
@[simp] theorem State.updStream_trackers (s : State) (p f) : (s.updStream p f).trackers = s.trackers := rfl
@[simp] theorem State.updStream_store (s : State) (p f) : (s.updStream p f).store = s.store := rfl
@[simp] theorem State.updStream_learn (s : State) (p f) : (s.updStream p f).learn = s.learn := rfl
@[simp] theorem State.updStream_ports (s : State) (p f) : (s.updStream p f).ports = s.ports := rfl
@[simp] theorem State.updStream_phase (s : State) (p f) : (s.updStream p f).phase = s.phase := rfl
@[simp] theorem State.updStream_pending (s : State) (p f) : (s.updStream p f).pending = s.pending := rfl
@[simp] theorem State.updStream_same (s : State) (p f) :
    (s.updStream p f).streams.get p = f (s.streams.get p) := by simp [State.updStream]
theorem State.updStream_get (s : State) (p q f) :
    (s.updStream p f).streams.get q = if q = p then f (s.streams.get q) else s.streams.get q := by
  by_cases h : q = p
  · subst h; simp
  · simp [State.updStream, Two.get_set, h]

/-! ### Publications -/

@[simp] theorem State.publish_siu (s : State) (m u) : (s.publish m u).siu = s.siu := rfl
@[simp] theorem State.publish_link (s : State) (m u) : (s.publish m u).link = s.link := rfl
@[simp] theorem State.publish_cond (s : State) (m u) : (s.publish m u).cond = s.cond := rfl
@[simp] theorem State.publish_trackers (s : State) (m u) : (s.publish m u).trackers = s.trackers := rfl
@[simp] theorem State.publish_store (s : State) (m u) : (s.publish m u).store = s.store := rfl
@[simp] theorem State.publish_learn (s : State) (m u) : (s.publish m u).learn = s.learn := rfl
@[simp] theorem State.publish_ports (s : State) (m u) : (s.publish m u).ports = s.ports := rfl
@[simp] theorem State.publish_phase (s : State) (m u) : (s.publish m u).phase = s.phase := rfl
@[simp] theorem State.publish_pending (s : State) (m u) : (s.publish m u).pending = s.pending := rfl

/-- A publication waits behind the others at both Stream Units, and nothing else of them changes. -/
theorem State.publish_stream (s : State) (m : Maker) (u : Publication) (p : Port) :
    (s.publish m u).streams.get p =
      { s.streams.get p with
        waiting := (s.streams.get p).waiting ++ [⟨m, s.siu.stamp, s.phase, u⟩] } := by
  cases p <;> rfl

@[simp] theorem State.linkNotice_siu (s : State) (c a b) : (s.linkNotice c a b).siu = s.siu := rfl
@[simp] theorem State.linkNotice_link (s : State) (c a b) : (s.linkNotice c a b).link = s.link := rfl
@[simp] theorem State.linkNotice_cond (s : State) (c a b) : (s.linkNotice c a b).cond = s.cond := rfl
@[simp] theorem State.linkNotice_trackers (s : State) (c a b) :
    (s.linkNotice c a b).trackers = s.trackers := rfl
@[simp] theorem State.linkNotice_store (s : State) (c a b) : (s.linkNotice c a b).store = s.store := rfl
@[simp] theorem State.linkNotice_learn (s : State) (c a b) : (s.linkNotice c a b).learn = s.learn := rfl
@[simp] theorem State.linkNotice_ports (s : State) (c a b) : (s.linkNotice c a b).ports = s.ports := rfl
@[simp] theorem State.linkNotice_phase (s : State) (c a b) : (s.linkNotice c a b).phase = s.phase := rfl
@[simp] theorem State.linkNotice_pending (s : State) (c a b) :
    (s.linkNotice c a b).pending = s.pending := rfl

/-! ### A change made for each string in turn -/

/-- What a change of each string leaves as it was, the change of all six leaves. -/
theorem State.forStrings_keeps {α : Type} (g : State → α) (s : State) (f : StringNo → State → State)
    (h : ∀ n t, g (f n t) = g t) : g (s.forStrings f) = g s := by
  simp [State.forStrings, StringNo.all, h]

/-- What a change of each string keeps true, the change of all six keeps true. -/
theorem State.forStrings_inv {P : State → Prop} {s : State} {f : StringNo → State → State}
    (h : ∀ n t, P t → P (f n t)) (hs : P s) : P (s.forStrings f) := by
  simp only [State.forStrings, StringNo.all, List.foldl]
  exact h _ _ (h _ _ (h _ _ (h _ _ (h _ _ (h _ _ hs)))))

/-- A change of each string that changes nothing changes nothing for all six. -/
theorem State.forStrings_id {s : State} {f : StringNo → State → State} (h : ∀ n, f n s = s) :
    s.forStrings f = s := by
  simp [State.forStrings, StringNo.all, h]

/-- A change of tracker n alone, made for each string, changes each tracker by its own change. -/
theorem State.forStrings_updTracker (s : State) (f : StringNo → Tracker → Tracker) (m : StringNo) :
    (s.forStrings fun n t => t.updTracker n (f n)).trackers.get m = f m (s.trackers.get m) := by
  simp only [State.forStrings, StringNo.all, List.foldl]
  cases m <;> rfl

end Machine
end Sys2Proof
end

