-- ==== Sys2Proof/Laws/Finish.lean ====
section
/-!
SUPPORT. What the end of a conversion set's handling does when nothing is due: nothing. The lemmas say
it event by event and then for `State.finishSet` as a whole, so that a proof about a command taken in a
settled state never opens an event.
-/

namespace Sys2Proof.Machine

/-! ### An event that is not due changes nothing -/

theorem State.takeStall_of_not_due {s : State} {n : StringNo}
    (h : (s.trackers.get n).stallDue = false) : s.takeStall n = s := by simp [State.takeStall, h]

theorem State.takeTimeout_of_not_due {s : State} {n : StringNo}
    (h : (s.trackers.get n).timeoutDue = false) : s.takeTimeout n = s := by simp [State.takeTimeout, h]

theorem State.takeRelease_of_not_due {s : State} {n : StringNo}
    (h : (s.trackers.get n).releaseDue = false) : s.takeRelease n = s := by simp [State.takeRelease, h]

theorem State.takeLevel_of_not_due {s : State} {n : StringNo}
    (h : (s.trackers.get n).levelDue = false) : s.takeLevel n = s := by simp [State.takeLevel, h]

theorem State.finishTracker_of_not_due {s : State} {n : StringNo}
    (h : (s.trackers.get n).due = false) : s.finishTracker n = s := by
  simp only [Tracker.due, Bool.or_eq_false_iff] at h
  obtain ⟨⟨⟨h1, h2⟩, h3⟩, h4⟩ := h
  rw [State.finishTracker, takeStall_of_not_due h1, takeTimeout_of_not_due h2,
    takeRelease_of_not_due h3, takeLevel_of_not_due h4]

theorem State.finishTrackers_of_not_due {s : State} (h : ∀ n, (s.trackers.get n).due = false) :
    s.finishTrackers = s :=
  State.forStrings_id fun n => finishTracker_of_not_due (h n)

theorem State.takeEpisode_of_not_due {s : State} {i : Sin}
    (h : (s.siu.inputs.get i).beginDue = false) : s.takeEpisode i = s := by simp [State.takeEpisode, h]

theorem State.takeStuckLong_of_not_due {s : State} {i : Sin}
    (h : (s.siu.inputs.get i).longDue = false) : s.takeStuckLong i = s := by
  simp [State.takeStuckLong, h]

theorem State.finishInput_of_not_due {s : State} {i : Sin}
    (h : (s.siu.inputs.get i).beginDue = false ∧ (s.siu.inputs.get i).longDue = false) :
    s.finishInput i = s := by
  rw [State.finishInput, takeEpisode_of_not_due h.1, takeStuckLong_of_not_due h.2]

theorem State.finishInputs_of_not_due {s : State}
    (h : ∀ i, (s.siu.inputs.get i).beginDue = false ∧ (s.siu.inputs.get i).longDue = false) :
    s.finishInputs = s := by
  simp [State.finishInputs, Sin.all, fun i => finishInput_of_not_due (h i)]

theorem State.takeAux_of_not_due {s : State} {x : AuxNo} (h : s.auxDue x = false) :
    s.takeAux x = s := by simp [State.takeAux, h]

theorem State.takeDigital_of_not_due {s : State} {x : AuxNo} (h : s.digitalDue x = false) :
    s.takeDigital x = s := by simp [State.takeDigital, h]

theorem State.finishAux_of_quiet {s : State} {x : AuxNo} (h : s.auxQuiet x = true) :
    s.finishAux x = s := by
  simp only [State.auxQuiet, Bool.and_eq_true, Bool.not_eq_true'] at h
  rw [State.finishAux, takeAux_of_not_due h.1, takeDigital_of_not_due h.2]

theorem State.takeWindowEnd_of_not_due {s : State} (h : s.windowDue = false) :
    s.takeWindowEnd = s := by simp [State.takeWindowEnd, h]

theorem State.captureEnd_of_not_due {s : State} (h : s.captureDue = false) : s.captureEnd = s := by
  unfold State.captureDue at h
  unfold State.captureEnd
  split at h
  · rw [if_neg (by simpa using h)]
  · rfl

theorem State.endHandling_of_even {s : State} (h : s.phase % 2 = 0) : s.endHandling = s := by
  simp [State.endHandling, h]

/-! ### The whole -/

/-- What `settled` says, in the form the lemmas above take. -/
theorem State.settled_iff (s : State) : s.settled = true ↔
    s.phase % 2 = 0 ∧ (∀ n, (s.trackers.get n).due = false) ∧
      (∀ i, (s.siu.inputs.get i).beginDue = false ∧ (s.siu.inputs.get i).longDue = false) ∧
      s.auxQuiet .sin6 = true ∧ s.auxQuiet .sin7 = true ∧ s.windowDue = false ∧
      s.captureDue = false := by
  simp only [State.settled, Bool.and_eq_true, beq_iff_eq, List.all_eq_true, Bool.not_eq_true']
  constructor
  · rintro ⟨⟨⟨⟨⟨⟨h1, h2⟩, h3⟩, h4⟩, h5⟩, h6⟩, h7⟩
    exact ⟨h1, fun n => h2 n (StringNo.mem_all n), fun i => h3 i (Sin.mem_all i), h4, h5, h6, h7⟩
  · rintro ⟨h1, h2, h3, h4, h5, h6, h7⟩
    exact ⟨⟨⟨⟨⟨⟨h1, fun n _ => h2 n⟩, fun i _ => h3 i⟩, h4⟩, h5⟩, h6⟩, h7⟩

theorem State.finishEvents_of_settled {s : State} (h : s.settled = true) : s.finishEvents = s := by
  obtain ⟨-, ht, hi, h6, h7, hw, hc⟩ := s.settled_iff.mp h
  rw [State.finishEvents, finishTrackers_of_not_due ht, finishInputs_of_not_due hi,
    finishAux_of_quiet h6, finishAux_of_quiet h7, takeWindowEnd_of_not_due hw,
    captureEnd_of_not_due hc]

/-- In a settled state nothing is left to finish: a command or event meets the state as it is. -/
@[simp] theorem State.finishSet_of_settled {s : State} (h : s.settled = true) : s.finishSet = s := by
  rw [State.finishSet, finishEvents_of_settled h, endHandling_of_even (s.settled_iff.mp h).1]

/-- A change of one Port Interface leaves a settled state settled. -/
@[simp] theorem State.updPort_settled (s : State) (p : Port) (f : PortIf → PortIf) :
    (s.updPort p f).settled = s.settled := rfl

/-- The queue plays no part in what is due. -/
@[simp] theorem State.settled_pending (s : State) (l : List Instr) :
    ({ s with pending := l } : State).settled = s.settled := rfl

end Sys2Proof.Machine
end

