-- ==== Sys2Proof/Laws/Frames.lean ====
section
/-!
SUPPORT. What each shared operation leaves as it was: one lemma per operation, which the simplifier
takes apart into one rewrite for each block of the part the operation does not touch.
-/

namespace Sys2Proof.Machine

/-- A change made for each string leaves alone what every one of its six changes leaves alone. -/
theorem State.forStrings_field {α : Type} {g : State → α} {s : State} {f : StringNo → State → State}
    (h : ∀ n t, g (f n t) = g t) : g (s.forStrings f) = g s := State.forStrings_keeps g s f h

/-! ### Trackers -/

@[simp] theorem State.publishTrack_keeps (s : State) (n : StringNo) (k : TrackKind) :
    (s.publishTrack n k).siu = s.siu ∧ (s.publishTrack n k).link = s.link ∧
    (s.publishTrack n k).cond = s.cond ∧ (s.publishTrack n k).trackers = s.trackers ∧
    (s.publishTrack n k).store = s.store ∧ (s.publishTrack n k).learn = s.learn ∧
    (s.publishTrack n k).ports = s.ports ∧ (s.publishTrack n k).phase = s.phase ∧
    (s.publishTrack n k).pending = s.pending := by
  unfold State.publishTrack
  try dsimp only
  repeat' split
  all_goals simp

@[simp] theorem State.takeCopy_keeps (s : State) (n : StringNo) :
    (s.takeCopy n).siu = s.siu ∧ (s.takeCopy n).link = s.link ∧ (s.takeCopy n).cond = s.cond ∧
    (s.takeCopy n).store = s.store ∧ (s.takeCopy n).learn = s.learn ∧
    (s.takeCopy n).streams = s.streams ∧ (s.takeCopy n).ports = s.ports ∧
    (s.takeCopy n).phase = s.phase ∧ (s.takeCopy n).pending = s.pending := by
  exact ⟨rfl, rfl, rfl, rfl, rfl, rfl, rfl, rfl, rfl⟩

@[simp] theorem State.adoptBank_keeps (s : State) (n : StringNo) :
    (s.adoptBank n).siu = s.siu ∧ (s.adoptBank n).link = s.link ∧ (s.adoptBank n).cond = s.cond ∧
    (s.adoptBank n).store = s.store ∧ (s.adoptBank n).learn = s.learn ∧
    (s.adoptBank n).ports = s.ports ∧ (s.adoptBank n).phase = s.phase ∧
    (s.adoptBank n).pending = s.pending := by
  unfold State.adoptBank
  try dsimp only
  repeat' split
  all_goals simp

@[simp] theorem State.enterSilent_keeps (s : State) (n : StringNo) :
    (s.enterSilent n).siu = s.siu ∧ (s.enterSilent n).link = s.link ∧
    (s.enterSilent n).cond = s.cond ∧ (s.enterSilent n).store = s.store ∧
    (s.enterSilent n).learn = s.learn ∧ (s.enterSilent n).ports = s.ports ∧
    (s.enterSilent n).phase = s.phase ∧ (s.enterSilent n).pending = s.pending := by
  unfold State.enterSilent
  try dsimp only
  all_goals simp

@[simp] theorem State.enterMuted_keeps (s : State) (n : StringNo) (c : EndCause) :
    (s.enterMuted n c).siu = s.siu ∧ (s.enterMuted n c).link = s.link ∧
    (s.enterMuted n c).cond = s.cond ∧ (s.enterMuted n c).store = s.store ∧
    (s.enterMuted n c).learn = s.learn ∧ (s.enterMuted n c).ports = s.ports ∧
    (s.enterMuted n c).phase = s.phase ∧ (s.enterMuted n c).pending = s.pending := by
  unfold State.enterMuted
  try dsimp only
  repeat' split
  all_goals simp

@[simp] theorem State.leaveMuted_keeps (s : State) (n : StringNo) :
    (s.leaveMuted n).siu = s.siu ∧ (s.leaveMuted n).link = s.link ∧ (s.leaveMuted n).cond = s.cond ∧
    (s.leaveMuted n).store = s.store ∧ (s.leaveMuted n).learn = s.learn ∧
    (s.leaveMuted n).ports = s.ports ∧ (s.leaveMuted n).phase = s.phase ∧
    (s.leaveMuted n).pending = s.pending := by
  unfold State.leaveMuted
  try dsimp only
  repeat' split
  all_goals simp

@[simp] theorem State.ghost_keeps (s : State) (n : StringNo) :
    (s.ghost n).siu = s.siu ∧ (s.ghost n).link = s.link ∧ (s.ghost n).cond = s.cond ∧
    (s.ghost n).store = s.store ∧ (s.ghost n).learn = s.learn ∧ (s.ghost n).ports = s.ports ∧
    (s.ghost n).phase = s.phase ∧ (s.ghost n).pending = s.pending := by
  unfold State.ghost
  try dsimp only
  all_goals simp

@[simp] theorem State.startNote_keeps (s : State) (n : StringNo) (v : Int) :
    (s.startNote n v).siu = s.siu ∧ (s.startNote n v).link = s.link ∧
    (s.startNote n v).cond = s.cond ∧ (s.startNote n v).store = s.store ∧
    (s.startNote n v).learn = s.learn ∧ (s.startNote n v).ports = s.ports ∧
    (s.startNote n v).phase = s.phase ∧ (s.startNote n v).pending = s.pending := by
  unfold State.startNote
  try dsimp only
  all_goals simp

@[simp] theorem State.accept_keeps (s : State) (n : StringNo) (v : Int) :
    (s.accept n v).siu = s.siu ∧ (s.accept n v).link = s.link ∧ (s.accept n v).cond = s.cond ∧
    (s.accept n v).store = s.store ∧ (s.accept n v).learn = s.learn ∧
    (s.accept n v).ports = s.ports ∧ (s.accept n v).phase = s.phase ∧
    (s.accept n v).pending = s.pending := by
  unfold State.accept
  try dsimp only
  repeat' split
  all_goals simp

@[simp] theorem State.acceptIf_keeps (s : State) (n : StringNo) (v : Option Int) :
    (s.acceptIf n v).siu = s.siu ∧ (s.acceptIf n v).link = s.link ∧ (s.acceptIf n v).cond = s.cond ∧
    (s.acceptIf n v).store = s.store ∧ (s.acceptIf n v).learn = s.learn ∧
    (s.acceptIf n v).ports = s.ports ∧ (s.acceptIf n v).phase = s.phase ∧
    (s.acceptIf n v).pending = s.pending := by
  unfold State.acceptIf
  try dsimp only
  repeat' split
  all_goals simp

@[simp] theorem State.takeStall_keeps (s : State) (n : StringNo) :
    (s.takeStall n).siu = s.siu ∧ (s.takeStall n).link = s.link ∧ (s.takeStall n).cond = s.cond ∧
    (s.takeStall n).store = s.store ∧ (s.takeStall n).learn = s.learn ∧
    (s.takeStall n).ports = s.ports ∧ (s.takeStall n).phase = s.phase ∧
    (s.takeStall n).pending = s.pending := by
  unfold State.takeStall
  try dsimp only
  repeat' split
  all_goals simp

@[simp] theorem State.takeTimeout_keeps (s : State) (n : StringNo) :
    (s.takeTimeout n).siu = s.siu ∧ (s.takeTimeout n).link = s.link ∧
    (s.takeTimeout n).cond = s.cond ∧ (s.takeTimeout n).store = s.store ∧
    (s.takeTimeout n).learn = s.learn ∧ (s.takeTimeout n).ports = s.ports ∧
    (s.takeTimeout n).phase = s.phase ∧ (s.takeTimeout n).pending = s.pending := by
  unfold State.takeTimeout
  try dsimp only
  repeat' split
  all_goals simp

@[simp] theorem State.takeRelease_keeps (s : State) (n : StringNo) :
    (s.takeRelease n).siu = s.siu ∧ (s.takeRelease n).link = s.link ∧
    (s.takeRelease n).cond = s.cond ∧ (s.takeRelease n).store = s.store ∧
    (s.takeRelease n).learn = s.learn ∧ (s.takeRelease n).ports = s.ports ∧
    (s.takeRelease n).phase = s.phase ∧ (s.takeRelease n).pending = s.pending := by
  unfold State.takeRelease
  try dsimp only
  repeat' split
  all_goals simp

@[simp] theorem State.takeLevel_keeps (s : State) (n : StringNo) :
    (s.takeLevel n).siu = s.siu ∧ (s.takeLevel n).link = s.link ∧ (s.takeLevel n).cond = s.cond ∧
    (s.takeLevel n).store = s.store ∧ (s.takeLevel n).learn = s.learn ∧
    (s.takeLevel n).ports = s.ports ∧ (s.takeLevel n).phase = s.phase ∧
    (s.takeLevel n).pending = s.pending := by
  unfold State.takeLevel
  try dsimp only
  repeat' split
  all_goals simp

@[simp] theorem State.finishTracker_keeps (s : State) (n : StringNo) :
    (s.finishTracker n).siu = s.siu ∧ (s.finishTracker n).link = s.link ∧
    (s.finishTracker n).cond = s.cond ∧ (s.finishTracker n).store = s.store ∧
    (s.finishTracker n).learn = s.learn ∧ (s.finishTracker n).ports = s.ports ∧
    (s.finishTracker n).phase = s.phase ∧ (s.finishTracker n).pending = s.pending := by
  unfold State.finishTracker
  try dsimp only
  all_goals simp

@[simp] theorem State.sampleOnset_keeps (s : State) (n : StringNo) (k : Option (Nat × Nat)) (a : Option Int) :
    (s.sampleOnset n k a).siu = s.siu ∧ (s.sampleOnset n k a).link = s.link ∧
    (s.sampleOnset n k a).cond = s.cond ∧ (s.sampleOnset n k a).store = s.store ∧
    (s.sampleOnset n k a).learn = s.learn ∧ (s.sampleOnset n k a).ports = s.ports ∧
    (s.sampleOnset n k a).phase = s.phase ∧ (s.sampleOnset n k a).pending = s.pending := by
  unfold State.sampleOnset
  try dsimp only
  repeat' split
  all_goals simp

@[simp] theorem State.advanceLevel_keeps (s : State) (n : StringNo) :
    (s.advanceLevel n).siu = s.siu ∧ (s.advanceLevel n).link = s.link ∧
    (s.advanceLevel n).cond = s.cond ∧ (s.advanceLevel n).store = s.store ∧
    (s.advanceLevel n).learn = s.learn ∧ (s.advanceLevel n).streams = s.streams ∧
    (s.advanceLevel n).ports = s.ports ∧ (s.advanceLevel n).phase = s.phase ∧
    (s.advanceLevel n).pending = s.pending := by
  exact ⟨rfl, rfl, rfl, rfl, rfl, rfl, rfl, rfl, rfl⟩

@[simp] theorem State.finishTrackers_keeps (s : State) :
    s.finishTrackers.siu = s.siu ∧ s.finishTrackers.link = s.link ∧ s.finishTrackers.cond = s.cond ∧
    s.finishTrackers.store = s.store ∧ s.finishTrackers.learn = s.learn ∧
    s.finishTrackers.ports = s.ports ∧ s.finishTrackers.phase = s.phase ∧
    s.finishTrackers.pending = s.pending := by
  refine ⟨?_, ?_, ?_, ?_, ?_, ?_, ?_, ?_⟩ <;>
    exact State.forStrings_keeps _ _ _ fun n t => by simp

@[simp] theorem State.clearHistories_keeps (s : State) :
    s.clearHistories.siu = s.siu ∧ s.clearHistories.link = s.link ∧ s.clearHistories.cond = s.cond ∧
    s.clearHistories.store = s.store ∧ s.clearHistories.learn = s.learn ∧
    s.clearHistories.streams = s.streams ∧ s.clearHistories.ports = s.ports ∧
    s.clearHistories.phase = s.phase ∧ s.clearHistories.pending = s.pending := by
  refine ⟨?_, ?_, ?_, ?_, ?_, ?_, ?_, ?_, ?_⟩ <;>
    exact State.forStrings_keeps _ _ _ fun n t => by simp

/-! ### The Learn Engine -/

@[simp] theorem State.endLearn_keeps (s : State) (t : Target) (r : LastResult) :
    (s.endLearn t r).siu = s.siu ∧ (s.endLearn t r).link = s.link ∧ (s.endLearn t r).cond = s.cond ∧
    (s.endLearn t r).trackers = s.trackers ∧ (s.endLearn t r).store = s.store ∧
    (s.endLearn t r).streams = s.streams ∧ (s.endLearn t r).phase = s.phase ∧
    (s.endLearn t r).pending = s.pending := by
  unfold State.endLearn
  try dsimp only
  all_goals simp

@[simp] theorem State.failLearn_keeps (s : State) (r : LearnReason) :
    (s.failLearn r).siu = s.siu ∧ (s.failLearn r).link = s.link ∧ (s.failLearn r).cond = s.cond ∧
    (s.failLearn r).trackers = s.trackers ∧ (s.failLearn r).store = s.store ∧
    (s.failLearn r).streams = s.streams ∧ (s.failLearn r).phase = s.phase ∧
    (s.failLearn r).pending = s.pending := by
  unfold State.failLearn
  try dsimp only
  repeat' split
  all_goals simp

@[simp] theorem State.learnOnset_keeps (s : State) (n : StringNo) :
    (s.learnOnset n).siu = s.siu ∧ (s.learnOnset n).link = s.link ∧ (s.learnOnset n).cond = s.cond ∧
    (s.learnOnset n).trackers = s.trackers ∧ (s.learnOnset n).store = s.store ∧
    (s.learnOnset n).streams = s.streams ∧ (s.learnOnset n).phase = s.phase ∧
    (s.learnOnset n).pending = s.pending := by
  unfold State.learnOnset
  try dsimp only
  repeat' split
  all_goals simp

@[simp] theorem State.learnLinkLost_keeps (s : State) :
    s.learnLinkLost.siu = s.siu ∧ s.learnLinkLost.link = s.link ∧ s.learnLinkLost.cond = s.cond ∧
    s.learnLinkLost.trackers = s.trackers ∧ s.learnLinkLost.store = s.store ∧
    s.learnLinkLost.streams = s.streams ∧ s.learnLinkLost.phase = s.phase ∧
    s.learnLinkLost.pending = s.pending := by
  unfold State.learnLinkLost
  try dsimp only
  all_goals simp

@[simp] theorem State.learnDropped_keeps (s : State) (n : StringNo) :
    (s.learnDropped n).siu = s.siu ∧ (s.learnDropped n).link = s.link ∧
    (s.learnDropped n).cond = s.cond ∧ (s.learnDropped n).trackers = s.trackers ∧
    (s.learnDropped n).store = s.store ∧ (s.learnDropped n).streams = s.streams ∧
    (s.learnDropped n).phase = s.phase ∧ (s.learnDropped n).pending = s.pending := by
  unfold State.learnDropped
  try dsimp only
  repeat' split
  all_goals simp

@[simp] theorem State.learnProfileCommit_keeps (s : State) (k : Bank) (n : StringNo) :
    (s.learnProfileCommit k n).siu = s.siu ∧ (s.learnProfileCommit k n).link = s.link ∧
    (s.learnProfileCommit k n).cond = s.cond ∧ (s.learnProfileCommit k n).trackers = s.trackers ∧
    (s.learnProfileCommit k n).store = s.store ∧ (s.learnProfileCommit k n).streams = s.streams ∧
    (s.learnProfileCommit k n).phase = s.phase ∧
    (s.learnProfileCommit k n).pending = s.pending := by
  unfold State.learnProfileCommit
  try dsimp only
  repeat' split
  all_goals simp

@[simp] theorem State.learnGlobalCommit_keeps (s : State) (a b : Global) :
    (s.learnGlobalCommit a b).siu = s.siu ∧ (s.learnGlobalCommit a b).link = s.link ∧
    (s.learnGlobalCommit a b).cond = s.cond ∧ (s.learnGlobalCommit a b).trackers = s.trackers ∧
    (s.learnGlobalCommit a b).store = s.store ∧ (s.learnGlobalCommit a b).streams = s.streams ∧
    (s.learnGlobalCommit a b).phase = s.phase ∧ (s.learnGlobalCommit a b).pending = s.pending := by
  unfold State.learnGlobalCommit
  try dsimp only
  repeat' split
  all_goals simp

@[simp] theorem State.learnTaps_keeps (s : State) (a b c : Option Int) :
    (s.learnTaps a b c).siu = s.siu ∧ (s.learnTaps a b c).link = s.link ∧
    (s.learnTaps a b c).cond = s.cond ∧ (s.learnTaps a b c).trackers = s.trackers ∧
    (s.learnTaps a b c).store = s.store ∧ (s.learnTaps a b c).streams = s.streams ∧
    (s.learnTaps a b c).ports = s.ports ∧ (s.learnTaps a b c).phase = s.phase ∧
    (s.learnTaps a b c).pending = s.pending := by
  unfold State.learnTaps
  try dsimp only
  repeat' split
  all_goals simp

@[simp] theorem State.captureEnd_keeps (s : State) :
    s.captureEnd.siu = s.siu ∧ s.captureEnd.link = s.link ∧ s.captureEnd.cond = s.cond ∧
    s.captureEnd.trackers = s.trackers ∧ s.captureEnd.store = s.store ∧
    s.captureEnd.streams = s.streams ∧ s.captureEnd.phase = s.phase ∧
    s.captureEnd.pending = s.pending := by
  unfold State.captureEnd
  try dsimp only
  repeat' split
  all_goals simp

@[simp] theorem State.armLearn_keeps (s : State) (t : Target) :
    (s.armLearn t).siu = s.siu ∧ (s.armLearn t).link = s.link ∧ (s.armLearn t).cond = s.cond ∧
    (s.armLearn t).trackers = s.trackers ∧ (s.armLearn t).store = s.store ∧
    (s.armLearn t).streams = s.streams ∧ (s.armLearn t).ports = s.ports ∧
    (s.armLearn t).phase = s.phase ∧ (s.armLearn t).pending = s.pending := by
  unfold State.armLearn
  try dsimp only
  all_goals simp

@[simp] theorem State.storeProfile_keeps (s : State) (k : Bank) (n : StringNo) (r : Profile) :
    (s.storeProfile k n r).siu = s.siu ∧ (s.storeProfile k n r).link = s.link ∧
    (s.storeProfile k n r).cond = s.cond ∧ (s.storeProfile k n r).trackers = s.trackers ∧
    (s.storeProfile k n r).learn = s.learn ∧ (s.storeProfile k n r).streams = s.streams ∧
    (s.storeProfile k n r).ports = s.ports ∧ (s.storeProfile k n r).phase = s.phase ∧
    (s.storeProfile k n r).pending = s.pending := by
  unfold State.storeProfile
  try dsimp only
  all_goals simp

@[simp] theorem State.takeLearnCommit_keeps (s : State) :
    s.takeLearnCommit.siu = s.siu ∧ s.takeLearnCommit.link = s.link ∧
    s.takeLearnCommit.cond = s.cond ∧ s.takeLearnCommit.trackers = s.trackers ∧
    s.takeLearnCommit.streams = s.streams ∧ s.takeLearnCommit.phase = s.phase ∧
    s.takeLearnCommit.pending = s.pending := by
  unfold State.takeLearnCommit
  try dsimp only
  repeat' split
  all_goals simp

/-! ### A tracker and its report to the Learn Engine -/

@[simp] theorem State.beginOnset_keeps (s : State) (n : StringNo) (k : Nat) :
    (s.beginOnset n k).siu = s.siu ∧ (s.beginOnset n k).link = s.link ∧
    (s.beginOnset n k).cond = s.cond ∧ (s.beginOnset n k).store = s.store ∧
    (s.beginOnset n k).phase = s.phase ∧ (s.beginOnset n k).pending = s.pending := by
  unfold State.beginOnset
  try dsimp only
  all_goals simp

@[simp] theorem State.repick_keeps (s : State) (n : StringNo) (k : Nat) :
    (s.repick n k).siu = s.siu ∧ (s.repick n k).link = s.link ∧ (s.repick n k).cond = s.cond ∧
    (s.repick n k).store = s.store ∧ (s.repick n k).phase = s.phase ∧
    (s.repick n k).pending = s.pending := by
  unfold State.repick
  try dsimp only
  all_goals simp

@[simp] theorem State.sampleSounding_keeps (s : State) (n : StringNo) (k : Option (Nat × Nat)) (a : Option Int) :
    (s.sampleSounding n k a).siu = s.siu ∧ (s.sampleSounding n k a).link = s.link ∧
    (s.sampleSounding n k a).cond = s.cond ∧ (s.sampleSounding n k a).store = s.store ∧
    (s.sampleSounding n k a).phase = s.phase ∧ (s.sampleSounding n k a).pending = s.pending := by
  unfold State.sampleSounding
  try dsimp only
  repeat' split
  all_goals simp

@[simp] theorem State.sampleReleasing_keeps (s : State) (n : StringNo) (k : Option (Nat × Nat)) (a : Option Int) :
    (s.sampleReleasing n k a).siu = s.siu ∧ (s.sampleReleasing n k a).link = s.link ∧
    (s.sampleReleasing n k a).cond = s.cond ∧ (s.sampleReleasing n k a).store = s.store ∧
    (s.sampleReleasing n k a).phase = s.phase ∧ (s.sampleReleasing n k a).pending = s.pending := by
  unfold State.sampleReleasing
  try dsimp only
  repeat' split
  all_goals simp

@[simp] theorem State.trackerSample_keeps (s : State) (n : StringNo) (y : Int) :
    (s.trackerSample n y).siu = s.siu ∧ (s.trackerSample n y).link = s.link ∧
    (s.trackerSample n y).cond = s.cond ∧ (s.trackerSample n y).store = s.store ∧
    (s.trackerSample n y).phase = s.phase ∧ (s.trackerSample n y).pending = s.pending := by
  unfold State.trackerSample
  try dsimp only
  repeat' split
  all_goals simp

/-! ### The Sense Input Unit -/

@[simp] theorem State.updInput_keeps (s : State) (i : Sin) (f : SenseInput → SenseInput) :
    (s.updInput i f).link = s.link ∧ (s.updInput i f).cond = s.cond ∧
    (s.updInput i f).trackers = s.trackers ∧ (s.updInput i f).store = s.store ∧
    (s.updInput i f).learn = s.learn ∧ (s.updInput i f).streams = s.streams ∧
    (s.updInput i f).ports = s.ports ∧ (s.updInput i f).phase = s.phase ∧
    (s.updInput i f).pending = s.pending := by
  unfold State.updInput
  try dsimp only
  all_goals simp

@[simp] theorem State.takeEpisode_keeps (s : State) (i : Sin) :
    (s.takeEpisode i).link = s.link ∧ (s.takeEpisode i).cond = s.cond ∧
    (s.takeEpisode i).trackers = s.trackers ∧ (s.takeEpisode i).store = s.store ∧
    (s.takeEpisode i).learn = s.learn ∧ (s.takeEpisode i).streams = s.streams ∧
    (s.takeEpisode i).ports = s.ports ∧ (s.takeEpisode i).phase = s.phase ∧
    (s.takeEpisode i).pending = s.pending := by
  unfold State.takeEpisode
  try dsimp only
  repeat' split
  all_goals simp

@[simp] theorem State.updAux_keeps (s : State) (x : AuxNo) (f : AuxUnit → AuxUnit) :
    (s.updAux x f).link = s.link ∧ (s.updAux x f).cond = s.cond ∧
    (s.updAux x f).trackers = s.trackers ∧ (s.updAux x f).store = s.store ∧
    (s.updAux x f).learn = s.learn ∧ (s.updAux x f).streams = s.streams ∧
    (s.updAux x f).ports = s.ports ∧ (s.updAux x f).phase = s.phase ∧
    (s.updAux x f).pending = s.pending := by
  unfold State.updAux
  try dsimp only
  repeat' split
  all_goals simp

@[simp] theorem State.takeAux_keeps (s : State) (x : AuxNo) :
    (s.takeAux x).link = s.link ∧ (s.takeAux x).cond = s.cond ∧
    (s.takeAux x).trackers = s.trackers ∧ (s.takeAux x).store = s.store ∧
    (s.takeAux x).learn = s.learn ∧ (s.takeAux x).ports = s.ports ∧ (s.takeAux x).phase = s.phase ∧
    (s.takeAux x).pending = s.pending := by
  unfold State.takeAux
  try dsimp only
  repeat' split
  all_goals simp

@[simp] theorem State.takeDigital_keeps (s : State) (x : AuxNo) :
    (s.takeDigital x).link = s.link ∧ (s.takeDigital x).cond = s.cond ∧
    (s.takeDigital x).trackers = s.trackers ∧ (s.takeDigital x).store = s.store ∧
    (s.takeDigital x).learn = s.learn ∧ (s.takeDigital x).ports = s.ports ∧
    (s.takeDigital x).phase = s.phase ∧ (s.takeDigital x).pending = s.pending := by
  unfold State.takeDigital
  try dsimp only
  repeat' split
  all_goals simp

@[simp] theorem State.finishAux_keeps (s : State) (x : AuxNo) :
    (s.finishAux x).link = s.link ∧ (s.finishAux x).cond = s.cond ∧
    (s.finishAux x).trackers = s.trackers ∧ (s.finishAux x).store = s.store ∧
    (s.finishAux x).learn = s.learn ∧ (s.finishAux x).ports = s.ports ∧
    (s.finishAux x).phase = s.phase ∧ (s.finishAux x).pending = s.pending := by
  unfold State.finishAux
  try dsimp only
  all_goals simp

@[simp] theorem State.siuRoles_keeps (s : State) (a b : Global) :
    (s.siuRoles a b).link = s.link ∧ (s.siuRoles a b).cond = s.cond ∧
    (s.siuRoles a b).trackers = s.trackers ∧ (s.siuRoles a b).store = s.store ∧
    (s.siuRoles a b).learn = s.learn ∧ (s.siuRoles a b).streams = s.streams ∧
    (s.siuRoles a b).ports = s.ports ∧ (s.siuRoles a b).phase = s.phase ∧
    (s.siuRoles a b).pending = s.pending := by
  unfold State.siuRoles
  try dsimp only
  all_goals simp

@[simp] theorem State.chooseClock_keeps (s : State) (c : ClockChoice) :
    (s.chooseClock c).link = s.link ∧ (s.chooseClock c).cond = s.cond ∧
    (s.chooseClock c).store = s.store ∧ (s.chooseClock c).learn = s.learn ∧
    (s.chooseClock c).streams = s.streams ∧ (s.chooseClock c).ports = s.ports ∧
    (s.chooseClock c).phase = s.phase ∧ (s.chooseClock c).pending = s.pending := by
  unfold State.chooseClock
  try dsimp only
  repeat' split
  all_goals simp

@[simp] theorem State.loseWordClock_keeps (s : State) :
    s.loseWordClock.link = s.link ∧ s.loseWordClock.cond = s.cond ∧
    s.loseWordClock.store = s.store ∧ s.loseWordClock.learn = s.learn ∧
    s.loseWordClock.phase = s.phase ∧ s.loseWordClock.pending = s.pending := by
  unfold State.loseWordClock
  try dsimp only
  all_goals simp

/-! ### The link monitor -/

@[simp] theorem State.leaveActive_keeps (s : State) :
    s.leaveActive.siu = s.siu ∧ s.leaveActive.cond = s.cond ∧ s.leaveActive.store = s.store ∧
    s.leaveActive.phase = s.phase ∧ s.leaveActive.pending = s.pending := by
  unfold State.leaveActive
  dsimp only
  refine ⟨?_, ?_, ?_, ?_, ?_⟩ <;> simp <;>
    exact State.forStrings_keeps _ _ _ fun n t => by simp

@[simp] theorem State.enterLink_keeps (s : State) (t : LinkState) :
    (s.enterLink t).siu = s.siu ∧ (s.enterLink t).cond = s.cond ∧ (s.enterLink t).store = s.store ∧
    (s.enterLink t).phase = s.phase ∧ (s.enterLink t).pending = s.pending := by
  unfold State.enterLink
  try dsimp only
  repeat' split
  all_goals simp

@[simp] theorem State.enterLinkNoticed_keeps (s : State) (t : LinkState) :
    (s.enterLinkNoticed t).siu = s.siu ∧ (s.enterLinkNoticed t).cond = s.cond ∧
    (s.enterLinkNoticed t).store = s.store ∧ (s.enterLinkNoticed t).phase = s.phase ∧
    (s.enterLinkNoticed t).pending = s.pending := by
  unfold State.enterLinkNoticed
  try dsimp only
  all_goals simp

@[simp] theorem State.measureWindow_keeps (s : State) (d : Eight (Option Int)) :
    (s.measureWindow d).siu = s.siu ∧ (s.measureWindow d).cond = s.cond ∧
    (s.measureWindow d).trackers = s.trackers ∧ (s.measureWindow d).store = s.store ∧
    (s.measureWindow d).learn = s.learn ∧ (s.measureWindow d).streams = s.streams ∧
    (s.measureWindow d).ports = s.ports ∧ (s.measureWindow d).phase = s.phase ∧
    (s.measureWindow d).pending = s.pending := by
  unfold State.measureWindow
  try dsimp only
  repeat' split
  all_goals simp

@[simp] theorem State.setFloors_keeps (s : State) :
    s.setFloors.siu = s.siu ∧ s.setFloors.trackers = s.trackers ∧ s.setFloors.store = s.store ∧
    s.setFloors.learn = s.learn ∧ s.setFloors.streams = s.streams ∧ s.setFloors.ports = s.ports ∧
    s.setFloors.phase = s.phase ∧ s.setFloors.pending = s.pending := by
  unfold State.setFloors
  try dsimp only
  all_goals simp

@[simp] theorem State.releaseUsable_keeps (s : State) :
    s.releaseUsable.siu = s.siu ∧ s.releaseUsable.link = s.link ∧ s.releaseUsable.cond = s.cond ∧
    s.releaseUsable.store = s.store ∧ s.releaseUsable.learn = s.learn ∧
    s.releaseUsable.ports = s.ports ∧ s.releaseUsable.phase = s.phase ∧
    s.releaseUsable.pending = s.pending := by
  refine ⟨?_, ?_, ?_, ?_, ?_, ?_, ?_, ?_⟩ <;>
    exact State.forStrings_keeps _ _ _ fun n t => by first | simp | (split <;> simp)

@[simp] theorem State.setWidth_keeps (s : State) :
    s.setWidth.siu = s.siu ∧ s.setWidth.cond = s.cond ∧ s.setWidth.trackers = s.trackers ∧
    s.setWidth.store = s.store ∧ s.setWidth.learn = s.learn ∧ s.setWidth.streams = s.streams ∧
    s.setWidth.ports = s.ports ∧ s.setWidth.phase = s.phase ∧ s.setWidth.pending = s.pending := by
  unfold State.setWidth
  try dsimp only
  all_goals simp

@[simp] theorem State.markWindowEnd_keeps (s : State) :
    s.markWindowEnd.siu = s.siu ∧ s.markWindowEnd.cond = s.cond ∧
    s.markWindowEnd.trackers = s.trackers ∧ s.markWindowEnd.store = s.store ∧
    s.markWindowEnd.learn = s.learn ∧ s.markWindowEnd.streams = s.streams ∧
    s.markWindowEnd.ports = s.ports ∧ s.markWindowEnd.phase = s.phase ∧
    s.markWindowEnd.pending = s.pending := by
  unfold State.markWindowEnd
  try dsimp only
  all_goals simp

@[simp] theorem State.noticeWidth_keeps (s : State) (w : Nat) :
    (s.noticeWidth w).siu = s.siu ∧ (s.noticeWidth w).link = s.link ∧
    (s.noticeWidth w).cond = s.cond ∧ (s.noticeWidth w).trackers = s.trackers ∧
    (s.noticeWidth w).store = s.store ∧ (s.noticeWidth w).learn = s.learn ∧
    (s.noticeWidth w).ports = s.ports ∧ (s.noticeWidth w).phase = s.phase ∧
    (s.noticeWidth w).pending = s.pending := by
  unfold State.noticeWidth
  try dsimp only
  repeat' split
  all_goals simp

@[simp] theorem State.takeWindowEnd_keeps (s : State) :
    s.takeWindowEnd.siu = s.siu ∧ s.takeWindowEnd.store = s.store ∧
    s.takeWindowEnd.phase = s.phase ∧ s.takeWindowEnd.pending = s.pending := by
  unfold State.takeWindowEnd
  try dsimp only
  repeat' split
  all_goals simp

@[simp] theorem State.dropChannel_keeps (s : State) (i : Sin) :
    (s.dropChannel i).siu = s.siu ∧ (s.dropChannel i).cond = s.cond ∧
    (s.dropChannel i).store = s.store ∧ (s.dropChannel i).phase = s.phase ∧
    (s.dropChannel i).pending = s.pending := by
  unfold State.dropChannel
  try dsimp only
  repeat' split
  all_goals simp

@[simp] theorem State.takeStuckLong_keeps (s : State) (i : Sin) :
    (s.takeStuckLong i).cond = s.cond ∧ (s.takeStuckLong i).store = s.store ∧
    (s.takeStuckLong i).phase = s.phase ∧ (s.takeStuckLong i).pending = s.pending := by
  unfold State.takeStuckLong
  try dsimp only
  repeat' split
  all_goals simp

@[simp] theorem State.finishInput_keeps (s : State) (i : Sin) :
    (s.finishInput i).cond = s.cond ∧ (s.finishInput i).store = s.store ∧
    (s.finishInput i).phase = s.phase ∧ (s.finishInput i).pending = s.pending := by
  unfold State.finishInput
  try dsimp only
  all_goals simp

@[simp] theorem State.finishInputs_keeps (s : State) :
    s.finishInputs.cond = s.cond ∧ s.finishInputs.store = s.store ∧ s.finishInputs.phase = s.phase ∧
    s.finishInputs.pending = s.pending := by
  simp [State.finishInputs, Sin.all]

@[simp] theorem State.debounce_keeps (s : State) (b : Bool) :
    (s.debounce b).siu = s.siu ∧ (s.debounce b).cond = s.cond ∧
    (s.debounce b).trackers = s.trackers ∧ (s.debounce b).store = s.store ∧
    (s.debounce b).learn = s.learn ∧ (s.debounce b).streams = s.streams ∧
    (s.debounce b).ports = s.ports ∧ (s.debounce b).phase = s.phase ∧
    (s.debounce b).pending = s.pending := by
  unfold State.debounce
  try dsimp only
  all_goals simp

@[simp] theorem State.presenceTrue_keeps (s : State) :
    s.presenceTrue.siu = s.siu ∧ s.presenceTrue.cond = s.cond ∧ s.presenceTrue.store = s.store ∧
    s.presenceTrue.phase = s.phase ∧ s.presenceTrue.pending = s.pending := by
  unfold State.presenceTrue
  try dsimp only
  repeat' split
  all_goals simp

@[simp] theorem State.surprise_keeps (s : State) (w : Nat) :
    (s.surprise w).siu = s.siu ∧ (s.surprise w).cond = s.cond ∧
    (s.surprise w).trackers = s.trackers ∧ (s.surprise w).store = s.store ∧
    (s.surprise w).learn = s.learn ∧ (s.surprise w).phase = s.phase ∧
    (s.surprise w).pending = s.pending := by
  unfold State.surprise
  try dsimp only
  all_goals simp

@[simp] theorem State.presenceFalse_keeps (s : State) :
    s.presenceFalse.siu = s.siu ∧ s.presenceFalse.cond = s.cond ∧ s.presenceFalse.store = s.store ∧
    s.presenceFalse.phase = s.phase ∧ s.presenceFalse.pending = s.pending := by
  unfold State.presenceFalse
  try dsimp only
  repeat' split
  all_goals simp

@[simp] theorem State.overCurrent_keeps (s : State) :
    s.overCurrent.siu = s.siu ∧ s.overCurrent.cond = s.cond ∧ s.overCurrent.store = s.store ∧
    s.overCurrent.phase = s.phase ∧ s.overCurrent.pending = s.pending := by
  unfold State.overCurrent
  try dsimp only
  repeat' split
  all_goals simp

@[simp] theorem State.powerUpEnd_keeps (s : State) :
    s.powerUpEnd.siu = s.siu ∧ s.powerUpEnd.cond = s.cond ∧ s.powerUpEnd.store = s.store ∧
    s.powerUpEnd.phase = s.phase ∧ s.powerUpEnd.pending = s.pending := by
  unfold State.powerUpEnd
  try dsimp only
  repeat' split
  all_goals simp

@[simp] theorem State.roleFloors_keeps (s : State) (a b : Global) :
    (s.roleFloors a b).siu = s.siu ∧ (s.roleFloors a b).cond = s.cond ∧
    (s.roleFloors a b).trackers = s.trackers ∧ (s.roleFloors a b).store = s.store ∧
    (s.roleFloors a b).learn = s.learn ∧ (s.roleFloors a b).streams = s.streams ∧
    (s.roleFloors a b).ports = s.ports ∧ (s.roleFloors a b).phase = s.phase ∧
    (s.roleFloors a b).pending = s.pending := by
  unfold State.roleFloors
  try dsimp only
  all_goals simp

@[simp] theorem State.remapTracker_keeps (s : State) (a b : Global) (n : StringNo) :
    (s.remapTracker a b n).siu = s.siu ∧ (s.remapTracker a b n).link = s.link ∧
    (s.remapTracker a b n).cond = s.cond ∧ (s.remapTracker a b n).store = s.store ∧
    (s.remapTracker a b n).learn = s.learn ∧ (s.remapTracker a b n).ports = s.ports ∧
    (s.remapTracker a b n).phase = s.phase ∧ (s.remapTracker a b n).pending = s.pending := by
  unfold State.remapTracker
  try dsimp only
  repeat' split
  all_goals simp

@[simp] theorem State.reevaluate_keeps (s : State) (a b : Global) :
    (s.reevaluate a b).siu = s.siu ∧ (s.reevaluate a b).cond = s.cond ∧
    (s.reevaluate a b).store = s.store ∧ (s.reevaluate a b).learn = s.learn ∧
    (s.reevaluate a b).ports = s.ports ∧ (s.reevaluate a b).phase = s.phase ∧
    (s.reevaluate a b).pending = s.pending := by
  unfold State.reevaluate
  dsimp only
  refine ⟨?_, ?_, ?_, ?_, ?_, ?_, ?_⟩ <;> (try split) <;> simp <;>
    exact State.forStrings_keeps _ _ _ fun n t => by simp

@[simp] theorem State.linkCommit_keeps (s : State) (a b : Global) :
    (s.linkCommit a b).siu = s.siu ∧ (s.linkCommit a b).cond = s.cond ∧
    (s.linkCommit a b).store = s.store ∧ (s.linkCommit a b).learn = s.learn ∧
    (s.linkCommit a b).ports = s.ports ∧ (s.linkCommit a b).phase = s.phase ∧
    (s.linkCommit a b).pending = s.pending := by
  unfold State.linkCommit
  try dsimp only
  repeat' split
  all_goals simp

/-! ### The Profile Store -/

@[simp] theorem State.conditionerCommit_keeps (s : State) (a b : Global) :
    (s.conditionerCommit a b).siu = s.siu ∧ (s.conditionerCommit a b).link = s.link ∧
    (s.conditionerCommit a b).trackers = s.trackers ∧ (s.conditionerCommit a b).store = s.store ∧
    (s.conditionerCommit a b).learn = s.learn ∧ (s.conditionerCommit a b).streams = s.streams ∧
    (s.conditionerCommit a b).ports = s.ports ∧ (s.conditionerCommit a b).phase = s.phase ∧
    (s.conditionerCommit a b).pending = s.pending := by
  unfold State.conditionerCommit
  try dsimp only
  all_goals simp

@[simp] theorem State.commitGlobal_keeps (s : State) (g : Global) :
    (s.commitGlobal g).phase = s.phase ∧ (s.commitGlobal g).pending = s.pending := by
  unfold State.commitGlobal
  try dsimp only
  all_goals simp

@[simp] theorem State.takeRequest_keeps (s : State) (n : StringNo) :
    (s.takeRequest n).siu = s.siu ∧ (s.takeRequest n).link = s.link ∧
    (s.takeRequest n).cond = s.cond ∧ (s.takeRequest n).store = s.store ∧
    (s.takeRequest n).learn = s.learn ∧ (s.takeRequest n).ports = s.ports ∧
    (s.takeRequest n).phase = s.phase ∧ (s.takeRequest n).pending = s.pending := by
  unfold State.takeRequest
  try dsimp only
  repeat' split
  all_goals simp

@[simp] theorem State.requestBank_keeps (s : State) (k : Bank) (n : StringNo) :
    (s.requestBank k n).siu = s.siu ∧ (s.requestBank k n).link = s.link ∧
    (s.requestBank k n).cond = s.cond ∧ (s.requestBank k n).learn = s.learn ∧
    (s.requestBank k n).ports = s.ports ∧ (s.requestBank k n).phase = s.phase ∧
    (s.requestBank k n).pending = s.pending := by
  unfold State.requestBank
  try dsimp only
  all_goals simp

/-! ### A Stream Unit -/

@[simp] theorem State.closeOpen_keeps (s : State) (p : Port) (c : CloseCause) :
    (s.closeOpen p c).siu = s.siu ∧ (s.closeOpen p c).link = s.link ∧
    (s.closeOpen p c).cond = s.cond ∧ (s.closeOpen p c).trackers = s.trackers ∧
    (s.closeOpen p c).store = s.store ∧ (s.closeOpen p c).learn = s.learn ∧
    (s.closeOpen p c).phase = s.phase ∧ (s.closeOpen p c).pending = s.pending := by
  unfold State.closeOpen
  try dsimp only
  repeat' split
  all_goals simp

@[simp] theorem State.closeIfFull_keeps (s : State) (p : Port) :
    (s.closeIfFull p).siu = s.siu ∧ (s.closeIfFull p).link = s.link ∧
    (s.closeIfFull p).cond = s.cond ∧ (s.closeIfFull p).trackers = s.trackers ∧
    (s.closeIfFull p).store = s.store ∧ (s.closeIfFull p).learn = s.learn ∧
    (s.closeIfFull p).phase = s.phase ∧ (s.closeIfFull p).pending = s.pending := by
  unfold State.closeIfFull
  try dsimp only
  repeat' split
  all_goals simp

@[simp] theorem State.countLost_keeps (s : State) (p : Port) (g : Nat) :
    (s.countLost p g).siu = s.siu ∧ (s.countLost p g).link = s.link ∧
    (s.countLost p g).cond = s.cond ∧ (s.countLost p g).trackers = s.trackers ∧
    (s.countLost p g).store = s.store ∧ (s.countLost p g).learn = s.learn ∧
    (s.countLost p g).phase = s.phase ∧ (s.countLost p g).pending = s.pending := by
  unfold State.countLost
  try dsimp only
  all_goals simp

@[simp] theorem State.overflowLost_keeps (s : State) (p : Port) :
    (s.overflowLost p).siu = s.siu ∧ (s.overflowLost p).link = s.link ∧
    (s.overflowLost p).cond = s.cond ∧ (s.overflowLost p).trackers = s.trackers ∧
    (s.overflowLost p).store = s.store ∧ (s.overflowLost p).learn = s.learn ∧
    (s.overflowLost p).phase = s.phase ∧ (s.overflowLost p).pending = s.pending := by
  unfold State.overflowLost
  try dsimp only
  all_goals simp

@[simp] theorem State.storeRecord_keeps (s : State) (p : Port) (r : Record) :
    (s.storeRecord p r).1.siu = s.siu ∧ (s.storeRecord p r).1.link = s.link ∧
    (s.storeRecord p r).1.cond = s.cond ∧ (s.storeRecord p r).1.trackers = s.trackers ∧
    (s.storeRecord p r).1.store = s.store ∧ (s.storeRecord p r).1.learn = s.learn ∧
    (s.storeRecord p r).1.phase = s.phase ∧ (s.storeRecord p r).1.pending = s.pending := by
  unfold State.storeRecord
  try dsimp only
  repeat' split
  all_goals simp

@[simp] theorem State.latchRecord_keeps (s : State) (p : Port) (r : Record) :
    (s.latchRecord p r).siu = s.siu ∧ (s.latchRecord p r).link = s.link ∧
    (s.latchRecord p r).cond = s.cond ∧ (s.latchRecord p r).trackers = s.trackers ∧
    (s.latchRecord p r).store = s.store ∧ (s.latchRecord p r).learn = s.learn ∧
    (s.latchRecord p r).phase = s.phase ∧ (s.latchRecord p r).pending = s.pending := by
  unfold State.latchRecord
  try dsimp only
  repeat' split
  all_goals simp

@[simp] theorem State.passFilter_keeps (s : State) (p : Port) (r : Record) :
    (s.passFilter p r).1.siu = s.siu ∧ (s.passFilter p r).1.link = s.link ∧
    (s.passFilter p r).1.cond = s.cond ∧ (s.passFilter p r).1.trackers = s.trackers ∧
    (s.passFilter p r).1.store = s.store ∧ (s.passFilter p r).1.learn = s.learn ∧
    (s.passFilter p r).1.phase = s.phase ∧ (s.passFilter p r).1.pending = s.pending := by
  unfold State.passFilter
  try dsimp only
  repeat' split
  all_goals simp

@[simp] theorem State.formCue_keeps (s : State) (p : Port) :
    (s.formCue p).siu = s.siu ∧ (s.formCue p).link = s.link ∧ (s.formCue p).cond = s.cond ∧
    (s.formCue p).trackers = s.trackers ∧ (s.formCue p).store = s.store ∧
    (s.formCue p).learn = s.learn ∧ (s.formCue p).phase = s.phase ∧
    (s.formCue p).pending = s.pending := by
  unfold State.formCue
  try dsimp only
  repeat' split
  all_goals simp

@[simp] theorem State.putResync_keeps (s : State) (p : Port) (k : Nat) :
    (s.putResync p k).siu = s.siu ∧ (s.putResync p k).link = s.link ∧
    (s.putResync p k).cond = s.cond ∧ (s.putResync p k).trackers = s.trackers ∧
    (s.putResync p k).store = s.store ∧ (s.putResync p k).learn = s.learn ∧
    (s.putResync p k).phase = s.phase ∧ (s.putResync p k).pending = s.pending := by
  unfold State.putResync
  try dsimp only
  all_goals simp

@[simp] theorem State.resync_keeps (s : State) (p : Port) (k : Nat) :
    (s.resync p k).siu = s.siu ∧ (s.resync p k).link = s.link ∧ (s.resync p k).cond = s.cond ∧
    (s.resync p k).trackers = s.trackers ∧ (s.resync p k).store = s.store ∧
    (s.resync p k).learn = s.learn ∧ (s.resync p k).phase = s.phase ∧
    (s.resync p k).pending = s.pending := by
  unfold State.resync
  try dsimp only
  repeat' split
  all_goals simp

@[simp] theorem State.emit_keeps (s : State) (p : Port) (r : Stream → Option Record) :
    (s.emit p r).siu = s.siu ∧ (s.emit p r).link = s.link ∧ (s.emit p r).cond = s.cond ∧
    (s.emit p r).trackers = s.trackers ∧ (s.emit p r).store = s.store ∧
    (s.emit p r).learn = s.learn ∧ (s.emit p r).phase = s.phase ∧
    (s.emit p r).pending = s.pending := by
  unfold State.emit
  try dsimp only
  repeat' split
  all_goals simp

@[simp] theorem State.emitLegato_keeps (s : State) (p : Port) (n : StringNo) (t : Stamp) (a b : Nat) (k : OnKind) :
    (s.emitLegato p n t a b k).siu = s.siu ∧ (s.emitLegato p n t a b k).link = s.link ∧
    (s.emitLegato p n t a b k).cond = s.cond ∧ (s.emitLegato p n t a b k).trackers = s.trackers ∧
    (s.emitLegato p n t a b k).store = s.store ∧ (s.emitLegato p n t a b k).learn = s.learn ∧
    (s.emitLegato p n t a b k).phase = s.phase ∧
    (s.emitLegato p n t a b k).pending = s.pending := by
  unfold State.emitLegato
  try dsimp only
  repeat' split
  all_goals simp

@[simp] theorem State.formTrack_keeps (s : State) (p : Port) (n : StringNo) (t : Stamp) (k : TrackKind) (m : HeldNote) (l : Nat) :
    (s.formTrack p n t k m l).siu = s.siu ∧ (s.formTrack p n t k m l).link = s.link ∧
    (s.formTrack p n t k m l).cond = s.cond ∧ (s.formTrack p n t k m l).trackers = s.trackers ∧
    (s.formTrack p n t k m l).store = s.store ∧ (s.formTrack p n t k m l).learn = s.learn ∧
    (s.formTrack p n t k m l).phase = s.phase ∧ (s.formTrack p n t k m l).pending = s.pending := by
  unfold State.formTrack
  try dsimp only
  repeat' split
  all_goals simp

@[simp] theorem State.formRecords_keeps (s : State) (p : Port) (t : Stamp) (u : Publication) :
    (s.formRecords p t u).siu = s.siu ∧ (s.formRecords p t u).link = s.link ∧
    (s.formRecords p t u).cond = s.cond ∧ (s.formRecords p t u).trackers = s.trackers ∧
    (s.formRecords p t u).store = s.store ∧ (s.formRecords p t u).learn = s.learn ∧
    (s.formRecords p t u).phase = s.phase ∧ (s.formRecords p t u).pending = s.pending := by
  unfold State.formRecords
  try dsimp only
  repeat' split
  all_goals simp

@[simp] theorem State.handlePublication_keeps (s : State) (p : Port) (w : Waiting) :
    (s.handlePublication p w).siu = s.siu ∧ (s.handlePublication p w).link = s.link ∧
    (s.handlePublication p w).cond = s.cond ∧ (s.handlePublication p w).trackers = s.trackers ∧
    (s.handlePublication p w).store = s.store ∧ (s.handlePublication p w).learn = s.learn ∧
    (s.handlePublication p w).phase = s.phase ∧ (s.handlePublication p w).pending = s.pending := by
  unfold State.handlePublication
  try dsimp only
  repeat' split
  all_goals simp

@[simp] theorem State.takePublication_keeps (s : State) (p : Port) (m : Maker) :
    (s.takePublication p m).siu = s.siu ∧ (s.takePublication p m).link = s.link ∧
    (s.takePublication p m).cond = s.cond ∧ (s.takePublication p m).trackers = s.trackers ∧
    (s.takePublication p m).store = s.store ∧ (s.takePublication p m).learn = s.learn ∧
    (s.takePublication p m).phase = s.phase ∧ (s.takePublication p m).pending = s.pending := by
  unfold State.takePublication
  try dsimp only
  repeat' split
  all_goals simp

@[simp] theorem State.takeIdle_keeps (s : State) (p : Port) :
    (s.takeIdle p).siu = s.siu ∧ (s.takeIdle p).link = s.link ∧ (s.takeIdle p).cond = s.cond ∧
    (s.takeIdle p).trackers = s.trackers ∧ (s.takeIdle p).store = s.store ∧
    (s.takeIdle p).learn = s.learn ∧ (s.takeIdle p).phase = s.phase ∧
    (s.takeIdle p).pending = s.pending := by
  unfold State.takeIdle
  try dsimp only
  repeat' split
  all_goals simp

@[simp] theorem State.afterFree_keeps (s : State) (p : Port) :
    (s.afterFree p).siu = s.siu ∧ (s.afterFree p).link = s.link ∧ (s.afterFree p).cond = s.cond ∧
    (s.afterFree p).trackers = s.trackers ∧ (s.afterFree p).store = s.store ∧
    (s.afterFree p).learn = s.learn ∧ (s.afterFree p).phase = s.phase ∧
    (s.afterFree p).pending = s.pending := by
  unfold State.afterFree
  try dsimp only
  repeat' split
  all_goals simp

@[simp] theorem State.postTo_keeps (s : State) (b : Bool) (d c : Port) (w : Half) :
    (s.postTo b d c w).1.siu = s.siu ∧ (s.postTo b d c w).1.link = s.link ∧
    (s.postTo b d c w).1.cond = s.cond ∧ (s.postTo b d c w).1.trackers = s.trackers ∧
    (s.postTo b d c w).1.store = s.store ∧ (s.postTo b d c w).1.learn = s.learn ∧
    (s.postTo b d c w).1.phase = s.phase ∧ (s.postTo b d c w).1.pending = s.pending := by
  unfold State.postTo
  try dsimp only
  repeat' split
  all_goals simp

/-! ### A conversion set -/

@[simp] theorem State.beginHandling_keeps (s : State) :
    s.beginHandling.cond = s.cond ∧ s.beginHandling.trackers = s.trackers ∧
    s.beginHandling.store = s.store ∧ s.beginHandling.learn = s.learn ∧
    s.beginHandling.streams = s.streams ∧ s.beginHandling.ports = s.ports ∧
    s.beginHandling.pending = s.pending := by
  unfold State.beginHandling
  try dsimp only
  all_goals simp

/-- Of the link monitor, the beginning of a handling changes the mark of a window end alone. -/
@[simp] theorem State.beginHandling_link (s : State) :
    s.beginHandling.link = { s.link with windowEnded := false } := rfl

@[simp] theorem State.endHandling_keeps (s : State) :
    s.endHandling.siu = s.siu ∧ s.endHandling.link = s.link ∧ s.endHandling.cond = s.cond ∧
    s.endHandling.trackers = s.trackers ∧ s.endHandling.store = s.store ∧
    s.endHandling.learn = s.learn ∧ s.endHandling.streams = s.streams ∧
    s.endHandling.ports = s.ports ∧ s.endHandling.pending = s.pending := by
  unfold State.endHandling
  try dsimp only
  all_goals simp

@[simp] theorem State.finishEvents_keeps (s : State) :
    s.finishEvents.store = s.store ∧ s.finishEvents.phase = s.phase ∧
    s.finishEvents.pending = s.pending := by
  unfold State.finishEvents
  try dsimp only
  all_goals simp

@[simp] theorem State.finishSet_keeps (s : State) :
    s.finishSet.store = s.store ∧ s.finishSet.pending = s.pending := by
  unfold State.finishSet
  try dsimp only
  all_goals simp

@[simp] theorem State.monitorChanges_keeps (s : State) (w : Bool) :
    (s.monitorChanges w).store = s.store ∧ (s.monitorChanges w).phase = s.phase ∧
    (s.monitorChanges w).pending = s.pending := by
  unfold State.monitorChanges
  repeat' split
  all_goals simp

@[simp] theorem State.sampleTrackers_keeps (s : State) (f : StringNo → Bool) (v : Six (Option Int)) :
    (s.sampleTrackers f v).siu = s.siu ∧ (s.sampleTrackers f v).link = s.link ∧
    (s.sampleTrackers f v).cond = s.cond ∧ (s.sampleTrackers f v).store = s.store ∧
    (s.sampleTrackers f v).phase = s.phase ∧ (s.sampleTrackers f v).pending = s.pending := by
  refine ⟨?_, ?_, ?_, ?_, ?_, ?_⟩ <;>
    exact State.forStrings_keeps _ _ _ fun n t => by first | simp | (split <;> simp)

@[simp] theorem State.countIdles_keeps (s : State) :
    s.countIdles.siu = s.siu ∧ s.countIdles.link = s.link ∧ s.countIdles.cond = s.cond ∧
    s.countIdles.trackers = s.trackers ∧ s.countIdles.store = s.store ∧
    s.countIdles.learn = s.learn ∧ s.countIdles.ports = s.ports ∧ s.countIdles.phase = s.phase ∧
    s.countIdles.pending = s.pending := by
  unfold State.countIdles
  try dsimp only
  all_goals simp

@[simp] theorem State.tapSample_keeps (s : State) (d : Eight (Option Int)) :
    (s.tapSample d).siu = s.siu ∧ (s.tapSample d).link = s.link ∧ (s.tapSample d).cond = s.cond ∧
    (s.tapSample d).trackers = s.trackers ∧ (s.tapSample d).store = s.store ∧
    (s.tapSample d).streams = s.streams ∧ (s.tapSample d).ports = s.ports ∧
    (s.tapSample d).phase = s.phase ∧ (s.tapSample d).pending = s.pending := by
  unfold State.tapSample
  try dsimp only
  repeat' split
  all_goals simp

@[simp] theorem State.conditionSample_keeps (s : State) (x : Eight (Option Int)) (v : Six (Option Int)) :
    (s.conditionSample x v).siu = s.siu ∧ (s.conditionSample x v).link = s.link ∧
    (s.conditionSample x v).trackers = s.trackers ∧ (s.conditionSample x v).store = s.store ∧
    (s.conditionSample x v).learn = s.learn ∧ (s.conditionSample x v).streams = s.streams ∧
    (s.conditionSample x v).ports = s.ports ∧ (s.conditionSample x v).phase = s.phase ∧
    (s.conditionSample x v).pending = s.pending := by
  unfold State.conditionSample
  try dsimp only
  all_goals simp

@[simp] theorem State.siuSample_keeps (s : State) (i : SetInputs) :
    (s.siuSample i).link = s.link ∧ (s.siuSample i).cond = s.cond ∧
    (s.siuSample i).trackers = s.trackers ∧ (s.siuSample i).store = s.store ∧
    (s.siuSample i).learn = s.learn ∧ (s.siuSample i).streams = s.streams ∧
    (s.siuSample i).ports = s.ports ∧ (s.siuSample i).phase = s.phase ∧
    (s.siuSample i).pending = s.pending := by
  unfold State.siuSample
  try dsimp only
  all_goals simp

@[simp] theorem State.handleSet_keeps (s : State) (i : SetInputs) (o : SetOrder) :
    (s.handleSet i o).store = s.store ∧ (s.handleSet i o).phase = s.phase ∧
    (s.handleSet i o).pending = s.pending := by
  unfold State.handleSet
  try dsimp only
  repeat' split
  all_goals simp

@[simp] theorem State.conversionSet_keeps (s : State) (i : SetInputs) (o : SetOrder) :
    (s.conversionSet i o).store = s.store ∧ (s.conversionSet i o).pending = s.pending := by
  unfold State.conversionSet
  try dsimp only
  all_goals simp

/-! ### Events on the timebase -/

@[simp] theorem State.watchEnd_keeps (s : State) :
    s.watchEnd.link = s.link ∧ s.watchEnd.cond = s.cond ∧ s.watchEnd.store = s.store ∧
    s.watchEnd.learn = s.learn ∧ s.watchEnd.phase = s.phase ∧ s.watchEnd.pending = s.pending := by
  unfold State.watchEnd
  try dsimp only
  repeat' split
  all_goals simp

@[simp] theorem State.holdEnd_keeps (s : State) (b : Bool) :
    (s.holdEnd b).siu = s.siu ∧ (s.holdEnd b).cond = s.cond ∧ (s.holdEnd b).store = s.store ∧
    (s.holdEnd b).phase = s.phase ∧ (s.holdEnd b).pending = s.pending := by
  unfold State.holdEnd
  try dsimp only
  repeat' split
  all_goals simp

@[simp] theorem State.armEnd_keeps (s : State) :
    s.armEnd.siu = s.siu ∧ s.armEnd.link = s.link ∧ s.armEnd.cond = s.cond ∧
    s.armEnd.trackers = s.trackers ∧ s.armEnd.store = s.store ∧ s.armEnd.streams = s.streams ∧
    s.armEnd.phase = s.phase ∧ s.armEnd.pending = s.pending := by
  unfold State.armEnd
  try dsimp only
  repeat' split
  all_goals simp

@[simp] theorem State.tickWatch_keeps (s : State) :
    s.tickWatch.link = s.link ∧ s.tickWatch.cond = s.cond ∧ s.tickWatch.store = s.store ∧
    s.tickWatch.learn = s.learn ∧ s.tickWatch.phase = s.phase ∧
    s.tickWatch.pending = s.pending := by
  unfold State.tickWatch
  try dsimp only
  repeat' split
  all_goals simp

@[simp] theorem State.tickDelay_keeps (s : State) :
    s.tickDelay.siu = s.siu ∧ s.tickDelay.cond = s.cond ∧ s.tickDelay.store = s.store ∧
    s.tickDelay.phase = s.phase ∧ s.tickDelay.pending = s.pending := by
  unfold State.tickDelay
  try dsimp only
  repeat' split
  all_goals simp

@[simp] theorem State.tickArm_keeps (s : State) :
    s.tickArm.siu = s.siu ∧ s.tickArm.link = s.link ∧ s.tickArm.cond = s.cond ∧
    s.tickArm.trackers = s.trackers ∧ s.tickArm.store = s.store ∧ s.tickArm.streams = s.streams ∧
    s.tickArm.phase = s.phase ∧ s.tickArm.pending = s.pending := by
  unfold State.tickArm
  try dsimp only
  repeat' split
  all_goals simp

@[simp] theorem State.tickHold_keeps (s : State) :
    s.tickHold.siu = s.siu ∧ s.tickHold.cond = s.cond ∧ s.tickHold.store = s.store ∧
    s.tickHold.phase = s.phase ∧ s.tickHold.pending = s.pending := by
  unfold State.tickHold
  try dsimp only
  repeat' split
  all_goals simp

@[simp] theorem State.tick_keeps (s : State) :
    s.tick.store = s.store ∧ s.tick.pending = s.pending := by
  unfold State.tick
  try dsimp only
  all_goals simp

end Sys2Proof.Machine
end

