-- ==== Sys2Proof/Laws/Images.lean ====
section
/-!
SUPPORT. Numbers, images and filter entries come back from the bytes they are sent as (R176, R181, R191,
R192).
-/

namespace Sys2Proof.Machine

/-- The two bytes of a 16-bit word give it back. -/
@[simp] theorem half_be16 (w : Half) : half (w.extractLsb' 8 8) (w.extractLsb' 0 8) = w := by
  unfold half
  ext i hi
  simp only [BitVec.getElem_append, BitVec.getElem_extractLsb']
  by_cases h : i < 8
  · simp only [h, dite_true, Nat.zero_add]
    exact BitVec.getLsbD_eq_getElem (by omega)
  · simp only [h, dite_false]
    rw [show 8 + (i - 8) = i by omega]
    simp [hi]

theorem profileImage?_imageBytes (m : ProfileImage) : profileImage? (imageBytes m) = some m := by
  simp [imageBytes, profileImage?, be16]

theorem globalImage?_globalBytes (m : GlobalImage) : globalImage? (globalBytes m) = some m := by
  simp [globalBytes, globalImage?, be16, Eight.toList, Six.toList]

theorem settingsImage?_settingsBytes (m : SettingsImage) :
    settingsImage? (settingsBytes m) = some m := by
  simp [settingsBytes, settingsImage?, be16]

theorem filterImages_flatMap (l : List FilterImage) :
    filterImages (l.flatMap fun m => [m.kinds, m.strings, m.action]) = l := by
  induction l with
  | nil => rfl
  | cons e l ih => simp [filterImages, ih]

theorem imageBytes_length (m : ProfileImage) : (imageBytes m).length = 23 := rfl

theorem globalBytes_length (m : GlobalImage) : (globalBytes m).length = 19 := rfl

theorem settingsBytes_length (m : SettingsImage) : (settingsBytes m).length = 11 := rfl

/-! ### Numbers as bytes -/

theorem num16_eq (x : Nat) : num16 x = [BitVec.ofNat 8 (x / 256), BitVec.ofNat 8 x] := by
  simp only [num16, be16, List.cons.injEq, and_true]
  constructor <;> apply BitVec.eq_of_toNat_eq
  all_goals simp [BitVec.extractLsb'_toNat, Nat.shiftRight_eq_div_pow]
  all_goals omega

theorem num24_eq (x : Nat) : num24 x =
    [BitVec.ofNat 8 (x / 65536), BitVec.ofNat 8 (x / 256), BitVec.ofNat 8 x] := by
  simp only [num24, be24, List.cons.injEq, and_true]
  refine ⟨?_, ?_, ?_⟩ <;> apply BitVec.eq_of_toNat_eq
  all_goals simp [BitVec.extractLsb'_toNat, Nat.shiftRight_eq_div_pow]
  all_goals omega

theorem be24_eq (x : Stamp) : be24 x =
    [BitVec.ofNat 8 (x.toNat / 65536), BitVec.ofNat 8 (x.toNat / 256), BitVec.ofNat 8 x.toNat] := by
  rw [← num24_eq, num24]
  simp

theorem be32_eq (x : MarkTime) : be32 (x.setWidth 32) =
    [BitVec.ofNat 8 (x.toNat / 16777216), BitVec.ofNat 8 (x.toNat / 65536),
      BitVec.ofNat 8 (x.toNat / 256), BitVec.ofNat 8 x.toNat] := by
  simp only [be32, List.cons.injEq, and_true]
  refine ⟨?_, ?_, ?_, ?_⟩ <;> apply BitVec.eq_of_toNat_eq
  all_goals simp [BitVec.extractLsb'_toNat, Nat.shiftRight_eq_div_pow]
  all_goals omega

/-! ### Names from their numbers -/

theorem ofNumber?_number (n : StringNo) :
    StringNo.ofNumber? (BitVec.ofNat 8 n.number).toNat = some n := by cases n <;> rfl

theorem sinOfNumber?_number (i : Sin) :
    Sin.ofNumber? (BitVec.ofNat 8 i.number).toNat = some i := by cases i <;> rfl

theorem bankOfCode?_code (k : Bank) : Bank.ofCode? (BitVec.ofNat 8 k.code).toNat = some k := by
  cases k <;> rfl

/-- A byte outside 1 to 6 names no string. -/
theorem ofNumber?_eq_none (x : Byte) (h : x = 0 ∨ 7 ≤ x.toNat) : StringNo.ofNumber? x.toNat = none := by
  unfold StringNo.ofNumber?
  split <;> first | rfl | (rcases h with rfl | h <;> simp_all)

/-- A byte of 8 or more names no sense input. -/
theorem sinOfNumber?_eq_none (x : Byte) (h : 8 ≤ x.toNat) : Sin.ofNumber? x.toNat = none := by
  unfold Sin.ofNumber?
  split <;> first | rfl | omega

/-- A byte of 2 or more names no bank. -/
theorem bankOfCode?_eq_none (x : Byte) (h : 2 ≤ x.toNat) : Bank.ofCode? x.toNat = none := by
  unfold Bank.ofCode?
  split <;> first | rfl | omega

/-! ### The row of a frame -/

/-- A frame of the right length spells its command. -/
theorem frameRow_eq {p : Port} {code : Byte} {args : List Byte} {c : Instr}
    (h : argLength? code args = some args.length) (h2 : commandOf? p code args = some c) :
    frameRow p code args = c := by
  simp [frameRow, h, h2]

end Sys2Proof.Machine
end

