-- ==== Sys2Proof/Laws/Ports.lean ====
section
/-!
SUPPORT. What the handling of a command frame can do (R177, R178): one lemma for the state in which the
command is taken, one for each way it is not.
-/

namespace Sys2Proof.Machine

/-- What `receives` says, in the form the lemmas below take. -/
theorem PortIf.receives_iff (q : PortIf) : q.receives = true ↔ q.txn = .receiving ∧ q.stored = [] := by
  simp [PortIf.receives]

theorem State.listens_iff (s : State) (p : Port) : s.listens p = true ↔
    (s.ports.get p).receives = true ∧ (s.ports.get p).handed = none := by
  simp [State.listens]

theorem State.ready_iff (s : State) (p : Port) : s.ready p = true ↔
    s.listens p = true ∧ s.settled = true := by
  simp [State.ready]

/-- A port that takes the command hands it to its owner, on the part with the last set finished. -/
theorem State.frame_of_listens {s : State} {p : Port} (n : Nat) (owner : State → State × Response)
    (h : s.listens p = true) : s.frame p n owner =
      (owner s.finishSet).1.awaits p n (owner s.finishSet).2.status (owner s.finishSet).2.body := by
  obtain ⟨h1, h2⟩ := (s.listens_iff p).mp h
  simp [State.frame, h1, h2, State.awaits, PortIf.handOver]

/-- A port that takes the command in a settled part hands it to its owner on the part as it is. -/
theorem State.frame_of_ready {s : State} {p : Port} (n : Nat) (owner : State → State × Response)
    (h : s.ready p = true) :
    s.frame p n owner = (owner s).1.awaits p n (owner s).2.status (owner s).2.body := by
  obtain ⟨h1, h2⟩ := (s.ready_iff p).mp h
  rw [State.frame_of_listens n owner h1, State.finishSet_of_settled h2]

/-- While an earlier command of the port is with its owner, a frame is answered BUSY and not taken. -/
theorem State.frame_of_handed {s : State} {p : Port} (n : Nat) (owner : State → State × Response)
    (h1 : (s.ports.get p).receives = true) (h2 : (s.ports.get p).handed ≠ none) :
    s.frame p n owner = s.answers p n .busy := by
  have h3 : (s.ports.get p).handed.isSome = true := by
    cases h : (s.ports.get p).handed with
    | none => exact absurd h h2
    | some r => rfl
  simp [State.frame, h1, h3, State.answers, PortIf.answerNow, refuse]

/-- Outside RECEIVING a frame is filler, and behind stored bytes no whole one comes: nothing changes. -/
theorem State.frame_of_not_receives {s : State} {p : Port} (n : Nat)
    (owner : State → State × Response) (h : (s.ports.get p).receives = false) :
    s.frame p n owner = s := by
  simp [State.frame, h]

/-- A frame keeps what its owner and the end of a set keep and what is no part of a Port Interface. -/
theorem State.frame_keeps {α : Type} (g : State → α) {s : State} {p : Port} {n : Nat}
    {owner : State → State × Response} (hport : ∀ t q f, g (State.updPort t q f) = g t)
    (hset : ∀ t : State, g t.finishSet = g t) (howner : ∀ t, g (owner t).1 = g t) :
    g (s.frame p n owner) = g s := by
  unfold State.frame
  dsimp only
  repeat' split
  all_goals simp [hport, hset, howner]

end Sys2Proof.Machine
end

