-- ==== Sys2Proof/Laws/Serial.lean ====
section
/-!
SUPPORT. The bytes of a port one by one (R176, R177): what each operation of `Machine/Serial.lean` leaves as it
was, when bytes are a complete frame, and one lemma for each way a byte is clocked.
-/

namespace Sys2Proof.Machine

/-! ### Changes of a Port Interface by a byte -/

@[simp] theorem PortIf.clockOut_csLow (q : PortIf) : q.clockOut.csLow = q.csLow := by
  unfold PortIf.clockOut; split <;> rfl
@[simp] theorem PortIf.clockOut_stored (q : PortIf) : q.clockOut.stored = q.stored := by
  unfold PortIf.clockOut; split <;> rfl
@[simp] theorem PortIf.clockOut_byteCount (q : PortIf) : q.clockOut.byteCount = q.byteCount := by
  unfold PortIf.clockOut; split <;> rfl
@[simp] theorem PortIf.clockOut_handed (q : PortIf) : q.clockOut.handed = q.handed := by
  unfold PortIf.clockOut; split <;> rfl
@[simp] theorem PortIf.clockOut_answer (q : PortIf) : q.clockOut.answer = q.answer := by
  unfold PortIf.clockOut; split <;> rfl
@[simp] theorem PortIf.clockOut_sdi (q : PortIf) : q.clockOut.sdi = q.sdi := by
  unfold PortIf.clockOut; split <;> rfl
@[simp] theorem PortIf.clockOut_flags (q : PortIf) : q.clockOut.flags = q.flags := by
  unfold PortIf.clockOut; split <;> rfl
@[simp] theorem PortIf.clockOut_mask (q : PortIf) : q.clockOut.mask = q.mask := by
  unfold PortIf.clockOut; split <;> rfl

/-- SDOx sends 0x00 wherever no response is being sent (R176). -/
theorem PortIf.out_of_not_answering {q : PortIf} (h : q.txn ≠ .answering) : q.out = 0 := by
  unfold PortIf.out; split
  · exact absurd (by assumption) h
  · rfl

/-- Outside ANSWERING a byte changes what SDOx sent last and nothing else (R177). -/
theorem PortIf.clockOut_of_not_answering {q : PortIf} (h : q.txn ≠ .answering) :
    q.clockOut = { q with sdo := 0 } := by
  unfold PortIf.clockOut; split
  · exact absurd (by assumption) h
  · rfl

/-! ### When bytes are a frame -/

/-- Two bytes and as many arguments as the second one says are a frame (R176). -/
theorem decodeFrame_whole (p : Port) (code : Byte) {args : List Byte} (h : args.length ≤ 255) :
    decodeFrame p (code :: BitVec.ofNat 8 args.length :: args) = some (frameRow p code args) := by
  have h2 : args.length % 256 = args.length := Nat.mod_eq_of_lt (by omega)
  simp [decodeFrame, h2]

/-- With fewer arguments than the second byte says the frame is not complete (R177). -/
theorem decodeFrame_part (p : Port) (code n : Byte) {args : List Byte} (h : args.length < n.toNat) :
    decodeFrame p (code :: n :: args) = none := by
  simp [decodeFrame, Nat.not_le.mpr h]

/-! ### The ways a byte is clocked -/

/-- A port that is not selected takes no byte. -/
theorem State.clockByte_of_unselected {s : State} {p : Port} (b : Byte)
    (h : (s.ports.get p).csLow = false) : s.clockByte p b = .next s := by
  simp [State.clockByte, h]

/-- A byte that does not complete the frame is stored. -/
theorem State.clockByte_of_part {s : State} {p : Port} {b : Byte} (h : (s.ports.get p).csLow = true)
    (hr : (s.ports.get p).txn = .receiving)
    (hd : decodeFrame p ((s.ports.get p).stored ++ [b]) = none) :
    s.clockByte p b = .next (s.updPort p fun q => q.store b) := by
  simp [State.clockByte, h, hr, hd]

/-- The byte that completes the frame runs its row on the part with nothing stored. -/
theorem State.clockByte_of_whole {s : State} {p : Port} {b : Byte} {c : Instr}
    (h : (s.ports.get p).csLow = true) (hr : (s.ports.get p).txn = .receiving)
    (hd : decodeFrame p ((s.ports.get p).stored ++ [b]) = some c) :
    s.clockByte p b = exec c (s.updPort p PortIf.takeFrame) := by
  simp [State.clockByte, h, hr, hd]

/-- Outside RECEIVING a byte is one of the response, or filler. -/
theorem State.clockByte_of_not_receiving {s : State} {p : Port} (b : Byte)
    (h : (s.ports.get p).csLow = true) (hr : (s.ports.get p).txn ≠ .receiving) :
    s.clockByte p b = .next (s.updPort p PortIf.clockOut) := by
  simp [State.clockByte, h, hr]

end Sys2Proof.Machine
end

