-- ==== Sys2Proof/Laws/Tracker.lean ====
section
/-!
SUPPORT. What the shared operations of a tracker do to its own context and to the waiting publications.
-/

namespace Sys2Proof.Machine

@[simp] theorem Tracker.applyClears_state (t : Tracker) : t.applyClears.state = t.state := by
  unfold Tracker.applyClears Tracker.clearedHistory
  dsimp only
  repeat' split
  all_goals rfl

@[simp] theorem Tracker.applyClears_note (t : Tracker) : t.applyClears.note = t.note := by
  unfold Tracker.applyClears Tracker.clearedHistory
  dsimp only
  repeat' split
  all_goals rfl

@[simp] theorem Tracker.applyClears_bank (t : Tracker) : t.applyClears.bank = t.bank := by
  unfold Tracker.applyClears Tracker.clearedHistory
  dsimp only
  repeat' split
  all_goals rfl

/-- The window check changes REJECT at most. -/
theorem Tracker.checkPitch_eq (t : Tracker) (v : Int) :
    (t.checkPitch v).1 = { t with reject := (t.checkPitch v).1.reject } := by
  unfold Tracker.checkPitch
  split <;> rfl

/-- A vote changes NOISE and REJECT at most. -/
theorem Tracker.stageVote_eq (t : Tracker) (r : Rate) (o : Int) (e : Bool) :
    (t.stageVote r o e).1 =
      { t with noise := (t.stageVote r o e).1.noise, reject := (t.stageVote r o e).1.reject } := by
  unfold Tracker.stageVote Tracker.checkPitch
  repeat' split
  all_goals rfl

/-- An onset: the tracker's context, the other trackers and the waiting publications after it (R80). -/
theorem State.beginOnset_spec (s : State) (n : StringNo) (peak : Nat) :
    (∀ m, m ≠ n → (s.beginOnset n peak).trackers.get m = s.trackers.get m) ∧
    (s.beginOnset n peak).trackers.get n = s.onsetEntry n peak (s.trackers.get n) ∧
    ∀ p, ((s.beginOnset n peak).streams.get p).waiting = s.waitsAfter p n (s.adoption n) := by
  unfold State.beginOnset State.adoptBank
  dsimp only
  refine ⟨fun m hm => ?_, ?_, fun p => ?_⟩ <;>
    by_cases hb : (s.trackers.get n).bank = s.store.requested.get n <;>
    simp [State.takeCopy, State.updTracker_get, State.onsetEntry, State.copyFor, State.floorOf,
      State.waitsAfter, State.adoption, State.publish_stream, *]

/-- An entry to SILENT: the same for it (R81). -/
theorem State.enterSilent_spec (s : State) (n : StringNo) :
    (∀ m, m ≠ n → (s.enterSilent n).trackers.get m = s.trackers.get m) ∧
    (s.enterSilent n).trackers.get n = s.silentEntry n (s.trackers.get n) ∧
    ∀ p, ((s.enterSilent n).streams.get p).waiting = s.waitsAfter p n (s.adoption n) := by
  unfold State.enterSilent State.adoptBank
  dsimp only
  refine ⟨fun m hm => ?_, ?_, fun p => ?_⟩ <;>
    by_cases hb : (s.trackers.get n).bank = s.store.requested.get n <;>
    simp [State.takeCopy, State.updTracker_get, State.silentEntry, State.copyFor, State.floorOf,
      State.waitsAfter, State.adoption, State.publish_stream, *]

/-- A publication of a held note waits behind the others at both streams (R89). -/
theorem State.publishTrack_of_note {s : State} {n : StringNo} {k : TrackKind} {h : HeldNote}
    (hn : (s.trackers.get n).note = some h) :
    s.publishTrack n k =
      s.publish (.tracker n) (.track n k h (levelOf (s.trackers.get n).e)) := by
  simp [State.publishTrack, hn]

/-- Without a note nothing is published. -/
theorem State.publishTrack_of_no_note {s : State} {n : StringNo} {k : TrackKind}
    (hn : (s.trackers.get n).note = none) : s.publishTrack n k = s := by
  simp [State.publishTrack, hn]

/-- An entry to MUTED leaves the other trackers alone (R78). -/
theorem State.enterMuted_other (s : State) {n m : StringNo} (c : EndCause) (h : m ≠ n) :
    (s.enterMuted n c).trackers.get m = s.trackers.get m := by
  unfold State.enterMuted
  split
  · rfl
  · simp [State.updTracker_get, h]

/-- An entry to MUTED ends in MUTED (R78). -/
theorem State.enterMuted_state (s : State) (n : StringNo) (c : EndCause) :
    ((s.enterMuted n c).trackers.get n).state = .muted := by
  unfold State.enterMuted
  split
  · assumption
  · simp

end Sys2Proof.Machine
end

