-- ==== Sys2Proof/Tests/Slice0.lean ====
section
/-!
SUPPORT. Checks of this model's own work: ill-formed terms that the well-formedness check refuses, frames
and responses byte by byte, the spec's worked examples, and for each statement with hypotheses a state and
operands that meet all of them together.
-/

namespace Sys2Proof.Tests

open Sys2Proof Sys2Proof.Machine

/-! ### Small states -/

/-- The part after power-on with port A in RECEIVING. -/
def rx : State :=
  State.reset.updPort .a fun q => { q with csLow := true, txn := .receiving }

/-- The same with a link in the state given, its supply and presence as that state has them. -/
def linked (st : LinkState) : State :=
  { rx with link := { rx.link with
      state := st, supply := st.supplied, presence := st != .absent, presPin := true,
      candidate := true } }

/-- ACTIVE with every string usable and every tracker SILENT. -/
def active : State :=
  let t := linked .active
  { t with link := { t.link with width := 6 },
           trackers := Six.of fun n => { Tracker.reset n with state := .silent } }

/-- String 5 holds its open note. -/
def sounding : State :=
  active.updTracker .s5 fun t =>
    { t with state := .sounding, note := some ⟨45, 4500, 100⟩, levelTimer := some 0, e := 9000 }

/-- String 5 in RELEASING. -/
def releasing : State :=
  active.updTracker .s5 fun t =>
    { t with state := .releasing, note := some ⟨45, 4500, 100⟩, levelTimer := some 240,
             releaseTimer := some 0, e := 10 }

/-- A learn of string 5 into bank A in CAPTURE at a count and peaks. -/
def capturing (count : Nat) (k : Peaks) (handed : Option Measured) : State :=
  { active with learn := { active.learn with state := .capture ⟨.s5, .a, 0, .a⟩ count k handed } }

/-- Every pin at a raw code, SIN6 and SIN7 low. -/
def pins (r : Int) : SetInputs := ⟨Eight.of fun _ => BitVec.ofInt 16 r, false, false⟩

/-- The state a command leads to. -/
def after (c : Instr) (s : State) : State :=
  match exec c s with
  | .next t => t
  | _ => s

/-- The state to which the bytes of a port, clocked one after another, lead. -/
def clocked (l : List Byte) (s : State) : State :=
  match s.clockBytes .a l with
  | .next t => t
  | _ => s

/-- ACTIVE with the rail run of SIN4 at the length of a stuck-long report. -/
def stuckLead : State := active.updInput .sin4 fun u => { u with rail := ⟨true, 4096⟩, episode := true }

/-- The same, SIN4 having been dropped by a window end of the same conversion set. -/
def stuckBehindWindow : State :=
  let s := stuckLead
  { s with
    link := { s.link with dropped := s.link.dropped.set .sin4 true, windowEnded := true, width := 5 },
    trackers := s.trackers.set .s5 (Tracker.reset .s5) }

/-- A record of string 5. -/
def bendRecord : Record := ⟨some .s5, 7, .bend 100 false⟩

/-- Port A's stream RUNNING with one record in its OPEN packet and one CLOSED packet. -/
def running : State :=
  active.updStream .a fun t =>
    { t with state := .running, nextSeq := 1, openPos := 2,
             closed := [⟨0, 1, .idle, 16, 7, [bendRecord]⟩], opened := some ⟨[bendRecord], 16, 0⟩ }

/-! ### Well-formedness: an ill-formed term for each check -/

theorem test_setFilter_of_85_entries_is_refused :
    (Instr.setFilter .a (List.replicate 85 ⟨1, 1, 0⟩)).wellFormed = false := by decide

theorem test_setFilter_of_84_entries_is_accepted :
    (Instr.setFilter .a (List.replicate 84 ⟨1, 1, 0⟩)).wellFormed = true := by decide

theorem test_unknownCommand_with_a_command_code_is_refused :
    (Instr.unknownCommand .a 0x01 []).wellFormed = false := by decide

theorem test_unknownCommand_with_a_subcommand_is_refused :
    (Instr.unknownCommand .a 0x40 [3]).wellFormed = false := by decide

theorem test_unknownCommand_with_256_arguments_is_refused :
    (Instr.unknownCommand .a 0x99 (List.replicate 256 0)).wellFormed = false := by decide +kernel

theorem test_malformedFrame_of_right_length_is_refused :
    (Instr.malformedFrame .a 0x03 [1]).wellFormed = false := by decide

theorem test_malformedFrame_of_no_command_is_refused :
    (Instr.malformedFrame .a 0x99 [1]).wellFormed = false := by decide

theorem test_malformedFrame_with_256_arguments_is_refused :
    (Instr.malformedFrame .a 0x03 (List.replicate 256 0)).wellFormed = false := by decide +kernel

theorem test_busyFrame_with_256_arguments_is_refused :
    (Instr.busyFrame .a 0x03 (List.replicate 256 0)).wellFormed = false := by decide +kernel

theorem test_rows_of_odd_frames_are_accepted :
    ((Instr.unknownCommand .a 0x99 [1, 2]).wellFormed && (Instr.unknownCommand .a 0x64 [6]).wellFormed &&
      (Instr.malformedFrame .a 0x62 []).wellFormed && (Instr.busyFrame .b 0x03 [1]).wellFormed) = true := by
  decide

/-! ### Frames byte by byte (R176, R178, R181) -/

theorem test_frame_identify : decodeFrame .a [0x01, 0] = some (.identify .a) := by decide

theorem test_frame_set_clock_with_filler :
    decodeFrame .b [0x03, 1, 2, 0, 0, 0] = some (.setClock .b 2) := by decide

theorem test_frame_clear_flags : decodeFrame .a [0x11, 2, 0x02, 0x01] = some (.clearFlags .a 0x0201) := by
  decide

theorem test_frame_learn_start :
    decodeFrame .a [0x50, 4, 5, 1, 0x01, 0x02] = some (.learnStart .a 5 1 0x0102) := by decide

theorem test_frame_stream_control : decodeFrame .b [0x64, 1, 5] = some (.streamReset .b) := by decide

theorem test_frame_unknown_subcommand :
    decodeFrame .a [0x40, 1, 4] = some (.unknownCommand .a 0x40 [4]) ∧
      decodeFrame .a [0x64, 1, 6] = some (.unknownCommand .a 0x64 [6]) := by decide

theorem test_frame_set_filter :
    decodeFrame .a [0x62, 4, 1, 0x0C, 0x3F, 3] = some (.setFilter .a [⟨0x0C, 0x3F, 3⟩]) := by decide

theorem test_frame_set_filter_of_no_byte : decodeFrame .a [0x62, 0] = some (.malformedFrame .a 0x62 []) := by
  decide

theorem test_frame_unknown_code : decodeFrame .a [0x04, 0] = some (.unknownCommand .a 0x04 []) := by decide

theorem test_frame_set_stream :
    decodeFrame .a [0x60, 11, 1, 2, 20, 0, 16, 4, 0, 0x01, 0xE0, 16, 8] =
      some (.setStream .a ⟨1, 2, 20, 16, 4, 0, 480, 16, 8⟩) := by decide

theorem test_frame_cut_short : decodeFrame .a [0x03, 1] = none := by decide

theorem test_no_row_has_table_bits :
    decodeTableWord 8 1 = none ∧ rx.withFetchWord 8 1 = rx := ⟨rfl, rfl⟩

/-! ### Responses and bodies (R176, R179, R193) -/

theorem test_status_bytes :
    [Status.ok, .empty, .busy, .stale, .invalid, .state, .locked, .unknown, .malformed].map Status.byte =
      [0x80, 0x81, 0x82, 0x83, 0x84, 0x85, 0x86, 0x87, 0x88] := by decide

theorem test_response_bytes : (ok [7, 8]).bytes = [0x80, 0, 2, 7, 8] := by decide

theorem test_body_lengths :
    ((Tracker.reset .s1).bytes .a).length = 70 ∧ (statusBody rx .a).length = 20 ∧
      (floorsBody rx).length = 35 ∧ Stream.reset.bytes.length = 60 ∧ Learn.reset.bytes.length = 50 ∧
      LastResult.empty.bytes.length = 30 := by decide +kernel

theorem test_record_bytes :
    (⟨some .s5, 0x010203, .noteOn 45 100 .pick none⟩ : Record).bytes =
        [0x15, 1, 2, 3, 45, 100, 0, 0xFF] ∧
      (⟨some .s1, 0, .bend (-8192) true⟩ : Record).bytes = [0x31, 0, 0, 0, 0xE0, 0, 1, 0] ∧
      (⟨none, 0, .gap 258⟩ : Record).bytes = [0x60, 0, 0, 0, 1, 2, 0, 0] := by decide

/-! ### The spec's worked examples -/

theorem test_clip_and_rail_of_the_loose_lead :
    let u := SenseInput.reset.sample 32100 (inputSample 1 32100)
    inputSample 1 1200 = 2400 ∧ inputSample 1 32100 = 32767 ∧ u.clip = 1 ∧ u.rail = ⟨true, 1⟩ ∧
      (u.sample 31999 (inputSample 1 31999)).rail.length = 0 ∧
      (u.sample 31999 (inputSample 1 31999)).clip = 1 := by decide

theorem test_aux_values_of_the_volume_knob :
    [(-32768 : Int), -32200, -31600, -32500, 31900, 32767, 32300].map (fun r => auxValue (BitVec.ofInt 16 r)) =
      [0, 1, 2, 0, 126, 127, 127] := by decide

theorem test_aux_publications_of_the_volume_knob :
    [auxPublishes none 0, auxPublishes (some 0) 1, auxPublishes (some 0) 2, auxPublishes (some 2) 0,
      auxPublishes (some 126) 127, auxPublishes (some 127) 127] =
      [true, false, true, true, true, false] := by decide

theorem test_dc_removal_on_sin2 :
    let a1 := (Accumulator.held 0).sample 2048
    let a2 := a1.1.sample 2048
    let a3 := a2.1.sample 2048
    let a4 := a3.1.sample 2048
    [a1.2, a2.2, a3.2, a4.2] = [some 2048, some 2046, some 2045, some 2043] ∧ a4.1 = .held 8182 ∧
      Accumulator.toLoad.sample 2050 = (.held 2099200, some 0) ∧
      (Accumulator.held 2099200).sample 2052 = (.held 2099202, some 2) := by decide

theorem test_bleed_of_the_a_string :
    bleedSum 1000 20000 0 1638 0 = 8000 ∧ roundedSum 8000 = 0 ∧
      bleedSum 20000 0 1000 0 1638 = 653722000 ∧ roundedSum 653722000 = 19950 := by decide

theorem test_saturation_on_the_g_string :
    roundedSum (bleedSum (-32000) 30000 30000 8192 8192) = -47000 ∧ saturateY (-47000) = -32768 ∧
      satAfter 0 (some (-47000)) = 1 ∧ satAfter 0 (some (-32768)) = 0 := by decide

theorem test_mark_times_of_the_a_string :
    [(markTime 100210 (-300) 500).toNat, (markTime 100646 (-800) 400).toNat,
      (markTime 101083 (-150) 850).toNat, (markTime 101519 (-400) 600).toNat] =
      [1603350, 1610330, 1617314, 1624294] ∧ markFraction (-5) 0 = 15 := by decide

theorem test_votes_of_the_missed_period :
    agree 8 13970 6980 = false ∧ agree 8 6972 13970 = false ∧ agree 8 6972 6980 = true := by decide

theorem test_pitches_of_the_open_a_string :
    pitchOf .hz48000 0 6982 = 4500 ∧ pitchOf .hz48000 0 6976 = 4501 ∧ pitchOf .hz44100 0 6414 = 4500 ∧
      pitchOf .hz48000 8 6950 = 4500 ∧ pitchOf .hz48000 0 1800 = 6847 := by decide +kernel

theorem test_pitches_on_the_highest_frets :
    pitchOf .hz48000 0 582 = 8801 ∧ pitchOf .hz48000 0 583 = 8798 := by decide +kernel

theorem test_factory_gates :
    (copyOf (Profile.factory .s5) .standard 0).gOn = 64 ∧
      (copyOf (Profile.factory .s5) .standard 0).gOff = 24 ∧ WorkingCopy.reset .s5 =
      copyOf (Profile.factory .s5) .standard 0 := by decide

theorem test_bends :
    [bendValue 2 0, bendValue 2 200, bendValue 2 (-200), bendValue 2 100, bendValue 2 (-500)] =
      [0, 8191, -8192, 4096, -8192] ∧ bendSaturated 2 200 = false ∧ bendSaturated 2 201 = true := by
  decide

theorem test_learn_results :
    bleedOf 1000 20000 = 1638 ∧ bleedOf 20000 20000 = 8192 ∧ sensOf 2048 = 255 ∧ sensOf 32767 = 51 := by
  decide

/-! ### Single steps -/

theorem test_power_on_raises_reset_done : (State.reset.ports.get .b).attnLow = true := by decide

theorem test_set_clock_is_locked_after_the_first :
    ((after (.setClock .a 1) rx).ports.get .a).handed = some (ok [1]) ∧
      (after (.setClock .a 1) rx).siu.lock = true := by decide +kernel

theorem test_idle_millisecond_counts_the_power_up_delay :
    let t := linked .powering
    let u := ({ t with link := { t.link with delayMs := some 50 } } : State).tick
    u.link.delayMs = some 49 ∧ u.link.state = .powering ∧ u.link.holdMs = 1 := by decide +kernel

theorem test_learn_is_armed_under_a_word_clock :
    let s := { active with
      siu := { active.siu with choice := .word44, watch := true, fed := true },
      learn := { active.learn with state := .armed ⟨.s5, .a, 0, .a⟩ 10000 } }
    s.tick.learn.state = .armed ⟨.s5, .a, 0, .a⟩ 9999 ∧ s.tick.siu.choice = .word44 ∧
      s.tick.tick.siu.choice = .internal ∧ s.tick.tick.learn.state = .armed ⟨.s5, .a, 0, .a⟩ 9998 := by
  decide +kernel

theorem test_report_behind_the_window_end_drops_the_channel :
    let t := after (.stuckLong .sin4) stuckBehindWindow
    ((t.streams.get .a).waiting.map fun w => w.pub) = [.notice .channelDrop 4 5] ∧
      Flag.fault.isSet (t.ports.get .b).flags = true ∧ t.link.width = 5 := by decide +kernel

theorem test_report_before_the_window_end_changes_no_channel :
    let s := { stuckBehindWindow with link := { stuckBehindWindow.link with windowEnded := false } }
    ((after (.stuckLong .sin4) s).streams.get .a).waiting = [] := by decide +kernel

theorem test_identify_byte_by_byte :
    let port := fun t : State => t.ports.get .a
    let t := clocked [0x01] rx
    let u := clocked [0] t
    let v := after (.responseReady .a) u
    let w := clocked [9, 9, 9, 9, 9, 9, 9] v
    let x := clocked [9] w
    ((port t).txn, (port t).stored, (port t).byteCount) = (.receiving, [1], 1) ∧
      ((port u).txn, (port u).stored, (port u).byteCount) = (.waiting, [], 2) ∧
      ((port (clocked [0x01, 0] u)).txn, (port (clocked [0x01, 0] u)).sdo) = (.waiting, 0) ∧
      ((port v).txn, (port v).sdo) = (.answering, 0) ∧ (port (clocked [9] v)).sdo = 0x80 ∧
      ((port w).txn, (port w).sdo, (port w).sent) = (.answering, 1, 7) ∧
      ((port x).txn, (port x).sdo, (port x).sent) = (.done, 0, 8) ∧
      (port (after (.csRise .a) t)).stored = [] := by decide +kernel

theorem test_over_current_leads_to_overload :
    (after .overCurrent active).link.state = .overload ∧ (after .overCurrent active).link.width = 0 ∧
      ((after .overCurrent active).trackers.get .s3).state = .muted := by decide +kernel

theorem test_onset_at_the_gate :
    let t := active.trackerSample .s5 64
    (t.trackers.get .s5).state = .onset ∧ (t.trackers.get .s5).onsetPeak = 64 ∧
      ((active.trackerSample .s5 63).trackers.get .s5).state = .silent := by decide +kernel

theorem test_fetch_gives_the_oldest_packet :
    ((after (.fetch .a) running).ports.get .a).handed =
      some (ok [0, 1, 2, 16, 0, 0, 7, 0, 0x35, 0, 0, 7, 0, 100, 0, 0]) := by decide +kernel

theorem test_release_of_another_number_is_stale :
    ((after (.release .a 9) running).ports.get .a).handed = some ⟨.stale, [0]⟩ := by decide +kernel

theorem test_cue_to_a_stopped_stream_with_a_cue_is_refused_state :
    let s := rx.updStream .a fun t => { t with cue := some ⟨.b, 5⟩ }
    ((after (.postCue .a 1 7) s).ports.get .a).handed = some (ok [3, 0]) ∧
      ((after (.postCue .a 1 7) s).streams.get .a).cue = some ⟨.b, 5⟩ := by decide +kernel

theorem test_start_writes_a_resync_sequence :
    let t := (after (.streamStart .a) active).streams.get .a
    t.state = .running ∧ t.closed.length = 1 ∧ (t.closed.map fun k => k.count) = [7] ∧ t.nextSeq = 1 := by
  decide +kernel

/-! ### Witnesses: hypotheses met together

Each names the statements whose hypotheses it meets. -/

/-- RowsMeetAFinishedSet, PartResetKeepsTheClock, FramesThePortAnswers and every statement about a
command at a ready port. -/
theorem test_witness_ready : rx.ready .a = true ∧ rx.listens .a = true ∧ rx.settled = true := by decide

theorem test_witness_frames :
    frameOf? (.setClock .a 1) = some (.a, 0x03, [1]) ∧ (Instr.setClock .a 1).wellFormed = true ∧
      argLength? 0x03 [1] = some 1 ∧ badSubcommand 0x99 [] = false ∧
      frameOf? (.unknownCommand .a 0x40 [4]) = some (.a, 0x40, [4]) := by decide

/-- FramesThePortAnswers: an earlier command with its owner, a port outside RECEIVING, and one that has
stored a byte. -/
theorem test_witness_busy_and_filler :
    (let s := rx.updPort .a fun q => { q with handed := some (ok []) };
      (s.ports.get .a).receives = true ∧ (s.ports.get .a).handed ≠ none) ∧
      (State.reset.ports.get .a).txn ≠ .receiving ∧ ((clocked [1] rx).ports.get .a).stored ≠ [] := by
  decide +kernel

/-- Transactions: a port that is not selected, and one in each state of a transaction. -/
theorem test_witness_transactions :
    (State.reset.ports.get .a).csLow = false ∧
    ((rx.ports.get .a).csLow = true ∧ (rx.ports.get .a).receives = true ∧
      decodeFrame .a ((rx.ports.get .a).stored ++ [1]) = none) ∧
    (let q := (clocked [1] rx).ports.get .a;
      q.csLow = true ∧ q.txn = .receiving ∧ decodeFrame .a (q.stored ++ [0]) = some (.identify .a)) ∧
    (let q := (clocked [1, 0] rx).ports.get .a; q.csLow = true ∧ q.txn = .waiting) ∧
    (let q := (clocked [0x99, 0] rx).ports.get .a;
      q.csLow = true ∧ q.txn = .answering ∧ q.answer = some (refuse .unknown)) ∧
    (let q := (clocked [0x99, 0, 0, 0, 0] rx).ports.get .a; q.csLow = true ∧ q.txn = .done) := by
  decide +kernel

/-- StepTakesTheFront. -/
theorem test_witness_queue :
    ({ rx with pending := [.powerOn] } : State).pending = .powerOn :: [] := rfl

/-- EmptyQueueLetsAMillisecondPass and RowsMeetAFinishedSet, each clause. -/
theorem test_witness_empty_queue :
    (rx.pending = [] ∧ (rx.ports.a.sdi = [] ∧ rx.ports.b.sdi = []) ∧ rx.settled = true ∧
      rx.siu.watch = false ∧ rx.siu.fed = false ∧ rx.link.delayMs = none ∧ rx.learn.state = .idle ∧
      rx.link.holdMs < 19) ∧
    (let s := rx.updPort .b fun q => { q with sdi := [1, 0] };
      s.pending = [] ∧ s.ports.a.sdi = [] ∧ s.ports.b.sdi = [1, 0]) ∧
    (let s := rx.updPort .a fun q => { q with sdi := [1, 0] }; s.ports.a.sdi = [1, 0]) ∧
    (let s := { linked .powering with
        link := { (linked .powering).link with delayMs := some 1, holdMs := 19 } };
      s.settled = true ∧ s.link.delayMs = some 1 ∧ 19 ≤ s.link.holdMs ∧
      s.link.presPin = s.link.candidate) ∧
    (let s := { active with learn := { active.learn with state := .armed ⟨.s5, .a, 0, .a⟩ 1 } };
      s.settled = true ∧ s.link.delayMs = none ∧ s.learn.state = .armed ⟨.s5, .a, 0, .a⟩ 1) ∧
    (let s := active.updInput .sin4 fun u => { u with rail := ⟨true, 4096⟩ };
      (s.siu.inputs.get .sin4).longDue = true) ∧
    (let s := { linked .settling with link := { (linked .settling).link with progress := 8192 } };
      s.windowDue = true) := by decide

/-- ConversionSetAtTheInputs and PacketsCloseAndAreReleased: the source in force and another, an analog and a
digital input, both rails; an episode that goes on and one that a set ends. -/
theorem test_witness_conversion_set :
    (SampleSource.internalTick = .internalTick ↔ rx.siu.choice = .internal) ∧ rx.settled = true ∧
      (let s := active.updInput .sin4 fun u => { u with rail := ⟨true, 480⟩, episode := true };
        let set := fun (r : Int) (o : SetOrder) =>
          (after (.conversionSet .internalTick (pins r) o) s).siu.inputs.get .sin4
        s.settled = true ∧ (set 32000 ⟨0, false, false⟩).episode = true ∧
          (set 0 ⟨0, false, false⟩).episode = false ∧ (set (-32000) ⟨1, false, false⟩).rail.length = 1) ∧
      ¬ (SampleSource.wclkEdge = .internalTick ↔ rx.siu.choice = .internal) ∧
      Sin.sin7.number < rx.store.global.na ∧ ¬ Sin.sin6.number < 6 ∧
      ((pins 32000).raw.get .sin0).toInt = 32000 ∧ ((pins (-32000)).raw.get .sin0).toInt = -32000 := by
  decide +kernel

/-- StuckInputs: a report that is ignored, one that drops a string's input or an unmapped one, and one behind
a window end. -/
theorem test_witness_stuck :
    (let s := stuckLead;
      s.trackersQuiet = true ∧ s.linkOk = true ∧ s.trackersOk = true ∧ s.recordsOk = true ∧
      s.link.state = .active ∧ s.link.dropped.get .sin4 = false ∧
      4096 ≤ (s.siu.inputs.get .sin4).rail.length ∧ (s.siu.inputs.get .sin4).longReported = false ∧
      s.store.global.stringOf .sin4 = some .s5 ∧ s.store.global.stringOf .sin6 = none) ∧
    (let s := stuckBehindWindow;
      s.trackersQuiet = true ∧ s.linkOk = true ∧ s.link.state = .active ∧
      s.link.dropped.get .sin4 = true ∧ s.link.windowEnded = true ∧
      4096 ≤ (s.siu.inputs.get .sin4).rail.length ∧ (s.siu.inputs.get .sin4).longReported = false) ∧
    rx.trackersQuiet = true ∧ rx.link.state ≠ .active := by decide +kernel

/-- AuxInputsPublish, for both inputs and both roles. -/
theorem test_witness_aux :
    (let s := rx.updAux .sin7 fun u => { u with cadence := 480 };
      s.store.global.role (AuxNo.sin AuxNo.sin7) = .analogAux ∧ 480 ≤ (s.siu.aux .sin7).cadence ∧
      s.auxQuiet .sin6 = true) ∧
    (let s := { rx with store := { rx.store with global := { rx.store.global with na := 6 } } };
      s.store.global.role (AuxNo.sin AuxNo.sin7) = .digitalAux ∧ s.auxQuiet .sin6 = true) ∧
    (let due := fun u : AuxUnit => { u with cadence := 480 };
      let s := (rx.updAux .sin6 due).updAux .sin7 due;
      s.auxDue .sin7 = true ∧ s.auxQuiet .sin6 = false) ∧
    (let t := { rx with store := { rx.store with global := { rx.store.global with na := 6 } } };
      let due := fun u : AuxUnit => { u with hold := 480 };
      let s := (t.updAux .sin6 due).updAux .sin7 due;
      s.digitalDue .sin7 = true ∧ s.auxQuiet .sin6 = false) := by decide

/-- PresenceEvents, each clause. -/
theorem test_witness_presence :
    (let s := { rx with link := { rx.link with presPin := true, candidate := true } };
      s.settled = true ∧ s.link.presence = false ∧ s.link.state = .absent) ∧
    (let s := { active with link := { active.link with presPin := false, candidate := false } };
      s.settled = true ∧ s.link.presence = true ∧ s.link.state = .active) ∧
    (let s := { linked .overload with link := { (linked .overload).link with
        presPin := false, candidate := false } };
      s.settled = true ∧ s.link.presence = true ∧ s.link.state ≠ .active) := by decide

/-- SettleWindowEnds, the set that measures and the end. -/
theorem test_witness_window_end :
    (let s := { linked .settling with link := { (linked .settling).link with progress := 8192 } };
      s.trackersQuiet = true ∧ s.link.state = .settling ∧ 8192 ≤ s.link.progress) ∧
    (let s := linked .settling;
      s.settled = true ∧ s.recordsOk = true ∧ s.link.state = .settling ∧
      s.link.progress + 1 < 8192) := by decide +kernel

/-- Conditioning, and ConversionSetSamplesEveryTracker in both of its orders. -/
theorem test_witness_conditioning :
    active.settled = true ∧ (⟨1, true, false⟩ : SetOrder).monitorFirst ≠ 0 ∧ active.recordsOk = true ∧
      (active.link.state = .settling → active.link.progress + 1 < 8192) ∧
    (let s := { linked .settling with link := { (linked .settling).link with progress := 8191 } };
      s.settled = true ∧ (⟨0, true, false⟩ : SetOrder).monitorFirst = 0) := by decide +kernel

/-- IntervalAgreement (two intervals a semitone apart), PitchIsExactlyRounded, WorkingCopyAndGates. -/
theorem test_witness_measuring :
    ((14 : Nat) ≤ 14 ∧ 2 * 6590 ^ 12 ≤ 6982 ^ 12) ∧ (128 ≤ 6982 ∧ 6982 ≤ 6983 ∧ 6983 ≤ 20000) ∧
      (Profile.factory .s1).legal = true := by decide

/-- Voting: a clean, a split and no outcome, and the histories without a vote. -/
theorem test_witness_votes :
    let t := sounding.trackers.get .s5
    (t.state ≠ .muted ∧ t.state ≠ .silent) ∧ agree t.copy.tol 6984 6980 = true ∧
      (agree t.copy.tol 6972 13970 = false ∧ agree t.copy.tol 6980 6972 = true) ∧
      (agree t.copy.tol 13970 6980 = false ∧ agree t.copy.tol 6984 13970 = false) ∧
      t.history.length ≤ 1 := by decide

/-- MutedAndSilentSample, OnsetSample, SoundingSample, ReleasingSample, TrackerCountsEnd. -/
theorem test_witness_tracker_states :
    (State.reset.trackers.get .s1).state = .muted ∧ (active.trackers.get .s1).state = .silent ∧
      ((active.trackerSample .s5 64).trackers.get .s5).state = .onset ∧
      (sounding.trackers.get .s5).state = .sounding ∧ (sounding.trackers.get .s5).note.isSome = true ∧
      (releasing.trackers.get .s5).state = .releasing ∧ (releasing.trackers.get .s5).note.isSome = true := by
  decide +kernel

/-- EditProfile, ReadRecords, LearnCommands, SelectBank: names outside their ranges, and names inside. -/
theorem test_witness_names :
    (2 : Nat) ≤ (2 : Byte).toNat ∧ (7 : Nat) ≤ (7 : Byte).toNat ∧ (63 : Byte).toNat < 64 ∧
      (64 : Nat) ≤ (64 : Byte).toNat ∧ (1 : Byte) = BitVec.ofNat 8 Bank.b.code := by decide

/-- EditGlobal: an image for each of its outcomes. -/
theorem test_witness_edit_global :
    let m := Global.factory.image
    (3 ≤ ({ m with grade := 3 } : GlobalImage).grade.toNat) ∧
      (m.map.set .s2 0).get .s1 = (m.map.set .s2 0).get .s2 ∧ 7 ≤ ((m.map.set .s2 7).get .s2).toNat ∧
      (8 ≤ ((m.map.set .s2 8).get .s2).toNat ∧ (m.map.set .s2 8).get .s2 ≠ 0xFF) ∧
      ((after (.editGlobal .a 0 m) rx).ports.get .a).handed.map Response.status = some .ok := by
  decide +kernel

/-- LinkControlSubcommands and StreamControl: subcommands that name nothing. -/
theorem test_witness_subcommands : 4 ≤ (4 : Byte).toNat ∧ 6 ≤ (6 : Byte).toNat := by decide

/-- GlobalCommit: the link in ACTIVE and elsewhere. -/
theorem test_witness_global_commit : active.link.state = .active ∧ rx.link.state ≠ .active := by decide

/-- LearnTakesReports and LearnCapturesAndEnds. -/
theorem test_witness_learn :
    (capturing 0 ⟨0, 0, 0⟩ none).learn.state.open? = some ⟨.s5, .a, 0, .a⟩ ∧
      rx.learn.state.open? = none ∧
      (let s := capturing 4094 ⟨1, 1, 1⟩ none;
        s.settled = true ∧ s.recordsOk = true ∧
          (after (.conversionSet .internalTick (pins 50) ⟨0, false, false⟩) s).learn.state ≠ .idle) ∧
      (let s := capturing 4095 ⟨20000, 1, 1⟩ none;
        let set := fun first => (after (.conversionSet .internalTick (pins 50) ⟨0, false, first⟩) s).learn
        s.settled = true ∧
          (set false).state = .capture ⟨.s5, .a, 0, .a⟩ 4096 ⟨20000, 50, 50⟩ none ∧
          (set true).state =
            .capture ⟨.s5, .a, 0, .a⟩ 4096 ⟨20000, 50, 50⟩ (some ⟨81, 81, 82⟩)) ∧
      (after .captureEnd (capturing 4096 ⟨20000, 5, 1000⟩ none)).learn.state =
        .capture ⟨.s5, .a, 0, .a⟩ 4096 ⟨20000, 5, 1000⟩ (some ⟨8, 1638, 82⟩) ∧
      (after .captureEnd (capturing 4096 ⟨2047, 5, 1000⟩ none)).learn.state = .idle := by
  decide +kernel

/-- GlobalCommit's and LearnTakesReports' records: a change at the target's neighbour, and none. -/
theorem test_witness_remap :
    let g := Global.factory
    (StringNo.s5.thinner? = some .s4 ∧ g.map.get .s4 ≠ (g.map.set .s4 none).get .s4) ∧ g.legal = true := by
  decide

/-- PublicationTaken: a waiting publication of the maker, and none. -/
theorem test_witness_publication :
    let s := active.publish .siu (.aux .sin6 5)
    (s.streams.get .a).waiting = [] ++ ⟨.siu, 0, 0, .aux .sin6 5⟩ :: [] ∧
      (active.streams.get .a).waiting = [] := by decide

/-- Cues: a cue in a running stream with room; RecordsAreStored: both cases. -/
theorem test_witness_streams :
    (let t := (running.updStream .a fun t => { t with cue := some ⟨.b, 5⟩ }).streams.get .a;
      t.cue = some ⟨.b, 5⟩ ∧ t.state = .running ∧ t.hasRoom = true) ∧
    (let t := (active.updStream .a fun t => { t with
        closed := List.replicate 8 ⟨0, 1, .idle, 16, 7, [bendRecord]⟩ }).streams.get .a;
      t.opened = none ∧ t.settings.ringLength ≤ t.closed.length) := by decide

/-- SettingsAndFilterCommands: good and bad codes and tables; BendValue; Cues: the destinations. -/
theorem test_witness_stream_operands :
    (2 ≤ (2 : Byte).toNat ∧ (1 : Byte).toNat < 2) ∧ 8 < (List.replicate 9 (⟨1, 1, 0⟩ : FilterImage)).length ∧
      (0 < 24) ∧ ((0 : Byte) = 0 ∧ 4 ≤ (4 : Byte).toNat ∧ (3 : Byte) ≠ 0 ∧ (3 : Byte).toNat < 4) := by
  decide

/-- PacketsCloseAndAreReleased: an OPEN packet whose idle timer has counted out, and none. -/
theorem test_witness_packets :
    ((running.streams.get .a).opened.map fun k => k.idleLeft) = some 0 ∧
      (active.streams.get .a).opened = none := by decide

/-- ClearFlagsAtTheSendingPort, MaskAndAttention, ReadsOfContextsAndFloors. -/
theorem test_witness_flags :
    (0x0200 : Half).getLsbD Flag.resetDone.bit = true ∧ (rx.ports.get .a).ok = true ∧
      ((7 : Byte) = 0 ∨ 7 ≤ (7 : Byte).toNat) ∧ 2 ≤ (2 : Byte).toNat ∧ 8 ≤ (8 : Byte).toNat := by decide

/-- The invariants hold at the state after power-on and at the small states above. -/
theorem test_witness_invariants :
    (running.portsOk && running.recordsOk && running.trackersOk && running.linkOk &&
      running.streamsOk) = true ∧
    (sounding.trackersOk && releasing.trackersOk && (capturing 9 ⟨1, 1, 1⟩ none).linkOk) = true := by
  decide +kernel

end Sys2Proof.Tests
end

section
/-!
PROOF. The two resets (R15, R16, R186, R187): power-on block by block, and PART_RESET as power-on with
the clock kept.
-/

namespace Sys2Proof.Machine

theorem exec_powerOn (s : State) : exec .powerOn s = .next s.powerOn := rfl

/-- Power-on leaves one flag set, and the attention line low for it (R185, R187). -/
theorem PortIf.attnLow_resetAt (cs : Bool) (sdi : List Byte) :
    (PortIf.resetAt cs sdi).attnLow = true := by
  simp [PortIf.attnLow, PortIf.resetAt]

theorem State.powerOn_ports (s : State) (p : Port) :
    s.powerOn.ports.get p = PortIf.resetAt (s.ports.get p).csLow (s.ports.get p).sdi := by
  cases p <;> rfl

theorem State.powerOn_streams (s : State) (p : Port) : s.powerOn.streams.get p = Stream.reset := by
  cases p <;> rfl

theorem State.powerOn_trackers (s : State) (n : StringNo) :
    s.powerOn.trackers.get n = Tracker.reset n :=
  Six.get_of Tracker.reset n

theorem State.powerOn_inputs (s : State) (i : Sin) : s.powerOn.siu.inputs.get i = SenseInput.reset :=
  Eight.get_of _ i

theorem State.powerOn_aux (s : State) (x : AuxNo) : s.powerOn.siu.aux x = AuxUnit.fresh := by
  cases x <;> rfl

theorem State.powerOn_profile (s : State) (k : Bank) (n : StringNo) :
    s.powerOn.store.profile k n = Profile.factory n := by
  cases k <;> exact Six.get_of Profile.factory n

theorem powerOnFrontEnd : Claims.PowerOnFrontEnd := by
  refine fun s => ⟨s.powerOn, exec_powerOn s, rfl, rfl, rfl, rfl, rfl, rfl, rfl, fun i => ?_,
    fun x => ?_, rfl, rfl, rfl, rfl, rfl, rfl, rfl, rfl, rfl, rfl, rfl, rfl, fun i => ?_, fun n => ?_, rfl⟩
  · simp [State.powerOn_inputs, SenseInput.reset]
  · simp [State.powerOn_aux, AuxUnit.fresh]
  · exact ⟨Eight.get_of _ i, Eight.get_of _ i, Eight.get_of _ i⟩
  · exact Six.get_of _ n

theorem powerOnTrackersAndStore : Claims.PowerOnTrackersAndStore := by
  refine fun s => ⟨s.powerOn, exec_powerOn s, fun n => ?_, s.powerOn_profile, rfl,
    fun n => Six.get_of _ n, rfl, rfl⟩
  simp only [s.powerOn_trackers n]
  exact ⟨rfl, rfl, rfl, rfl, rfl, rfl, rfl, rfl, rfl, rfl, rfl, rfl, rfl, rfl, rfl, rfl, rfl, rfl, rfl,
    rfl, rfl⟩

theorem powerOnStreamsAndPorts : Claims.PowerOnStreamsAndPorts := by
  refine fun s => ⟨s.powerOn, exec_powerOn s, fun p => ⟨?_, ?_⟩⟩
  · simp [State.powerOn_streams, Stream.reset, Settings.default, ViewEntry.none]
  · rw [State.powerOn_ports]
    exact ⟨rfl, rfl, rfl, PortIf.attnLow_resetAt _ _, rfl, rfl, rfl, rfl, rfl, rfl, rfl⟩

/-- Settles O5: the power-on state is the one reset state but for pins, queue and bytes, field by field. -/
theorem powerOn : Obligations.PowerOn :=
  ⟨powerOnFrontEnd, powerOnTrackersAndStore, powerOnStreamsAndPorts⟩

/-- A listening port takes PART_RESET and answers it itself, at once (R186). -/
theorem exec_partReset_of_listens {s : State} {p : Port} (h : s.listens p = true) :
    exec (.partReset p) s = .next (s.partReset.answers p 0 .ok) := by
  obtain ⟨hr, hh⟩ := (s.listens_iff p).mp h
  have : exec (.partReset p) s = execPartReset p s := rfl
  simp [this, execPartReset, hr, hh, State.answers, PortIf.answerNow, ok]

theorem State.answers_port_other (s : State) (p : Port) (n : Nat) (st : Status) :
    (s.answers p n st).ports.get p.other = s.ports.get p.other := by
  cases p <;> rfl

/-- Settles O7: the part after PART_RESET is the part after power-on with the old clock, whose Port
Interfaces and streams those of power-on are. -/
theorem partResetKeepsTheClock : Obligations.PartResetKeepsTheClock := by
  intro p s h
  refine ⟨s.partReset.answers p 0 .ok, s.powerOn, exec_powerOn s, exec_partReset_of_listens h, rfl, ?_⟩
  have hport : (s.partReset.answers p 0 .ok).ports.get p.other = s.powerOn.ports.get p.other :=
    State.answers_port_other _ p 0 .ok
  have hstream (q : Port) : (s.partReset.answers p 0 .ok).streams.get q = Stream.reset :=
    s.powerOn_streams q
  rw [hport, State.powerOn_ports]
  exact ⟨rfl, rfl, fun q => by rw [hstream]; rfl⟩

end Sys2Proof.Machine
end

section
/-!
PROOF. The two events of an aux input (R12, R13) and their order at one sample (R14).
-/

namespace Sys2Proof.Machine

theorem exec_auxEvaluation (x : AuxNo) (s : State) : exec (.auxEvaluation x) s =
    if s.auxDue x then .next ((s.auxBefore x).takeAux x) else .next s := rfl

theorem exec_digitalAuxPublish (x : AuxNo) (s : State) : exec (.digitalAuxPublish x) s =
    if s.digitalDue x then .next ((s.auxBefore x).takeDigital x) else .next s := rfl

/-! ### What the events change of the two aux units -/

@[simp] theorem State.updAux_aux_same (s : State) (x : AuxNo) (f : AuxUnit → AuxUnit) :
    (s.updAux x f).siu.aux x = f (s.siu.aux x) := by
  cases x <;> rfl

theorem State.updAux_aux_other (s : State) {x y : AuxNo} (f : AuxUnit → AuxUnit) (h : y ≠ x) :
    (s.updAux x f).siu.aux y = s.siu.aux y := by
  cases x <;> cases y
  case sin6.sin7 | sin7.sin6 => rfl
  all_goals exact absurd rfl h

theorem State.takeAux_aux_other (s : State) {x y : AuxNo} (h : y ≠ x) :
    (s.takeAux x).siu.aux y = s.siu.aux y := by
  unfold State.takeAux
  dsimp only
  split
  · split <;> simp [State.updAux_aux_other s _ h]
  · rfl

theorem State.takeDigital_aux_other (s : State) {x y : AuxNo} (h : y ≠ x) :
    (s.takeDigital x).siu.aux y = s.siu.aux y := by
  unfold State.takeDigital
  dsimp only
  split
  · simp [State.updAux_aux_other s _ h]
  · rfl

theorem State.finishAux_aux_other (s : State) {x y : AuxNo} (h : y ≠ x) :
    (s.finishAux x).siu.aux y = s.siu.aux y := by
  rw [State.finishAux, State.takeDigital_aux_other _ h, State.takeAux_aux_other _ h]

/-! ### What is due depends on the aux unit and the role alone -/

theorem State.auxDue_congr {s t : State} {x : AuxNo} (hs : t.store = s.store)
    (ha : t.siu.aux x = s.siu.aux x) : t.auxDue x = s.auxDue x := by
  rw [State.auxDue, State.auxDue, hs, ha]

theorem State.digitalDue_congr {s t : State} {x : AuxNo} (hs : t.store = s.store)
    (ha : t.siu.aux x = s.siu.aux x) : t.digitalDue x = s.digitalDue x := by
  rw [State.digitalDue, State.digitalDue, hs, ha]

theorem State.auxQuiet_congr {s t : State} {x : AuxNo} (hs : t.store = s.store)
    (ha : t.siu.aux x = s.siu.aux x) : t.auxQuiet x = s.auxQuiet x := by
  rw [State.auxQuiet, State.auxQuiet, State.auxDue_congr hs ha, State.digitalDue_congr hs ha]

/-- An analog aux input has nothing to publish as a digital one (R2). -/
theorem State.digitalDue_of_auxDue {s : State} {x : AuxNo} (h : s.auxDue x = true) :
    s.digitalDue x = false := by
  have hr : s.store.global.role x.sin = .analogAux := by simp_all [State.auxDue]
  simp [State.digitalDue, hr]

/-- An evaluation brings the cadence back to 0, so none is due behind it (R12). -/
theorem State.takeAux_not_auxDue (s : State) (x : AuxNo) : (s.takeAux x).auxDue x = false := by
  by_cases h : s.auxDue x = true
  · have hc : ((s.takeAux x).siu.aux x).cadence = 0 := by
      simp only [State.takeAux, h, if_true]
      split <;> simp
    simp [State.auxDue, hc, Config.auxLength]
  · rw [Bool.not_eq_true] at h
    rw [State.takeAux_of_not_due h, h]

/-- Once the candidate level is the published one, no publication is due (R13). -/
theorem State.takeDigital_not_digitalDue (s : State) (x : AuxNo) :
    (s.takeDigital x).digitalDue x = false := by
  by_cases h : s.digitalDue x = true
  · have hp : ((s.takeDigital x).siu.aux x).published =
        some ((s.takeDigital x).siu.aux x).candidate := by simp [State.takeDigital, h]
    simp [State.digitalDue, hp]
  · rw [Bool.not_eq_true] at h
    rw [State.takeDigital_of_not_due h, h]

/-- Both events of an aux input leave none of them due. -/
theorem State.finishAux_quiet (s : State) (x : AuxNo) : (s.finishAux x).auxQuiet x = true := by
  have hd : (s.finishAux x).digitalDue x = false := (s.takeAux x).takeDigital_not_digitalDue x
  have ha : (s.finishAux x).auxDue x = false := by
    by_cases h : (s.takeAux x).digitalDue x = true
    · have hr : (s.takeAux x).store.global.role x.sin = .digitalAux := by simp_all [State.digitalDue]
      simp_all [State.auxDue, State.finishAux]
    · rw [State.finishAux, State.takeDigital_of_not_due (by simpa using h)]
      exact s.takeAux_not_auxDue x
  simp [State.auxQuiet, ha, hd]

/-- Where SIN6 is quiet, nothing comes before an aux input's event. -/
theorem State.auxBefore_of_quiet {s : State} {x : AuxNo}
    (h : x = .sin7 → s.auxQuiet .sin6 = true) : s.auxBefore x = s := by
  cases x with
  | sin6 => rfl
  | sin7 => exact State.finishAux_of_quiet (h rfl)

/-- An aux event that nothing precedes takes itself alone, due or not. -/
theorem exec_auxEvaluation_of_quiet {s : State} {x : AuxNo}
    (h : x = .sin7 → s.auxQuiet .sin6 = true) : exec (.auxEvaluation x) s = .next (s.takeAux x) := by
  rw [exec_auxEvaluation, State.auxBefore_of_quiet h]
  split
  · rfl
  · next hd => rw [State.takeAux_of_not_due (by simpa using hd)]

theorem exec_digitalAuxPublish_of_quiet {s : State} {x : AuxNo}
    (h : x = .sin7 → s.auxQuiet .sin6 = true) :
    exec (.digitalAuxPublish x) s = .next (s.takeDigital x) := by
  rw [exec_digitalAuxPublish, State.auxBefore_of_quiet h]
  split
  · rfl
  · next hd => rw [State.takeDigital_of_not_due (by simpa using hd)]

/-! ### The three claims -/

/-- A raw code of 16 bits gives an aux value of 7 bits (R12). -/
theorem auxValue_le (r : Half) : auxValue r ≤ 127 := by
  have h : r.toInt < 32768 := by simpa using BitVec.toInt_lt (x := r)
  unfold auxValue
  omega

theorem auxPublishes_some (l v : Nat) : auxPublishes (some l) v =
    decide (l + 2 ≤ v ∨ v + 2 ≤ l ∨ ((v = 0 ∨ v = 127) ∧ v ≠ l)) := by
  rw [Bool.eq_iff_iff]
  simp only [auxPublishes, Bool.or_eq_true, Bool.and_eq_true, decide_eq_true_eq, beq_iff_eq, bne_iff_ne]
  omega

theorem auxEvaluation : Claims.AuxEvaluation := by
  intro x s hr hc hq
  refine ⟨auxValue_le _, ?_⟩
  have hdue : s.auxDue x = true := by simp [State.auxDue, hr, Config.auxLength, hc]
  rw [exec_auxEvaluation_of_quiet hq, State.takeAux, if_pos hdue]
  cases hl : (s.siu.aux x).lastValue with
  | none => rfl
  | some l =>
    simp only [auxPublishes_some]
    rfl

theorem digitalAuxPublishes : Claims.DigitalAuxPublishes := by
  intro x s hr hq
  have hdue : s.digitalDue x = true ↔
      480 ≤ (s.siu.aux x).hold ∧ (s.siu.aux x).published ≠ some (s.siu.aux x).candidate := by
    simp only [State.digitalDue, hr, beq_self_eq_true, Bool.true_and, Bool.and_eq_true,
      decide_eq_true_eq, bne_iff_ne]
    rfl
  rw [exec_digitalAuxPublish_of_quiet hq, State.takeDigital]
  simp only [hdue]

theorem sin6ComesBeforeSin7 : Claims.Sin6ComesBeforeSin7 := by
  intro s t
  have hq : t.auxQuiet .sin6 = true := s.finishAux_quiet .sin6
  have h7 : t.siu.aux .sin7 = s.siu.aux .sin7 := s.finishAux_aux_other (by decide)
  have hs : t.store = s.store := by simp [t]
  have hbefore : t.auxBefore .sin7 = s.auxBefore .sin7 := State.auxBefore_of_quiet fun _ => hq
  have ha := State.auxDue_congr hs h7
  have hd := State.digitalDue_congr hs h7
  refine ⟨hq, ⟨s.takeAux .sin6, exec_auxEvaluation_of_quiet nofun,
    exec_digitalAuxPublish_of_quiet nofun⟩, fun h => ⟨?_, ha.trans h⟩, fun h => ⟨?_, hd.trans h⟩⟩
  · rw [exec_auxEvaluation, exec_auxEvaluation, ha, hbefore, h]
    rfl
  · rw [exec_digitalAuxPublish, exec_digitalAuxPublish, hd, hbefore, h]
    rfl

/-- Settles O10: each aux event takes itself where SIN6 is quiet, and finishing SIN6 makes it so. -/
theorem auxInputsPublish : Obligations.AuxInputsPublish :=
  ⟨auxEvaluation, digitalAuxPublishes, sin6ComesBeforeSin7⟩

end Sys2Proof.Machine
end

section
/-!
PROOF. SET_CLOCK and the loss of the word clock (R9, R10, R11).
-/

namespace Sys2Proof.Machine

theorem exec_setClock (p : Port) (c : Byte) (s : State) :
    exec (.setClock p c) s = .next (s.frame p 1 fun t => t.doSetClock c) := rfl

theorem exec_wordClockLoss (s : State) : exec .wordClockLoss s = .next s.finishSet.watchEnd := rfl

/-- Every tracker is told to clear its history, and nothing else changes (R61). -/
theorem State.clearHistories_eq (s : State) : s.clearHistories =
    { s with trackers := Six.of fun n => { s.trackers.get n with clearHistory := true } } := rfl

/-- A choice byte of 3 or more names no clock (R9). -/
theorem ClockChoice.ofCode?_eq_none {k : Nat} (h0 : k ≠ 0) (h1 : k ≠ 1) (h2 : k ≠ 2) :
    ClockChoice.ofCode? k = none := by
  obtain ⟨j, rfl⟩ : ∃ j, k = j + 3 := ⟨k - 3, by omega⟩
  rfl

/-! ### The three outcomes of SET_CLOCK: the lock, a choice that names nothing, one that is taken -/

theorem State.doSetClock_of_lock {s : State} (c : Byte) (h : s.siu.lock = true) :
    s.doSetClock c = (s, ⟨.locked, [BitVec.ofNat 8 s.siu.choice.code]⟩) := by
  simp [State.doSetClock, h, byte]

theorem State.doSetClock_of_none {s : State} {c : Byte} (h : s.siu.lock = false)
    (hc : ClockChoice.ofCode? c.toNat = none) : s.doSetClock c = (s, ⟨.invalid, []⟩) := by
  simp [State.doSetClock, h, hc, refuse]

theorem State.doSetClock_of_some {s : State} {c : Byte} {k : ClockChoice} (h : s.siu.lock = false)
    (hc : ClockChoice.ofCode? c.toNat = some k) :
    s.doSetClock c = (s.chooseClock k, ⟨.ok, [BitVec.ofNat 8 k.code]⟩) := by
  simp [State.doSetClock, h, hc, ok, byte]

theorem setClock : Claims.SetClock := by
  intro p c s h
  rw [exec_setClock, State.frame_of_ready 1 _ h]
  by_cases hl : s.siu.lock = true
  · rw [if_pos hl, State.doSetClock_of_lock c hl]
  rw [if_neg hl]
  have hl : s.siu.lock = false := by simpa using hl
  by_cases h0 : c = 0
  · subst h0
    rw [State.doSetClock_of_some (k := .internal) hl rfl]
    rfl
  by_cases h1 : c = 1
  · subst h1
    rw [State.doSetClock_of_some (k := .word48) hl rfl]
    rfl
  by_cases h2 : c = 2
  · subst h2
    rw [State.doSetClock_of_some (k := .word44) hl rfl]
    rfl
  have hnone : ClockChoice.ofCode? c.toNat = none :=
    ClockChoice.ofCode?_eq_none (by bv_omega) (by bv_omega) (by bv_omega)
  rw [State.doSetClock_of_none hl hnone, if_neg h0, if_neg (not_or.mpr ⟨h1, h2⟩)]

theorem wordClockLoss : Claims.WordClockLoss := by
  intro s h
  rw [exec_wordClockLoss, State.finishSet_of_settled h, State.watchEnd]
  rfl

/-- Settles O11: both rows change the clock and mark every history, as `clearHistories_eq` says. -/
theorem clockChoiceAndLoss : Obligations.ClockChoiceAndLoss :=
  ⟨setClock, wordClockLoss⟩

end Sys2Proof.Machine
end

section
/-!
SUPPORT. What the shared operations put behind the publications that wait, exactly: nothing else of a
Stream Unit changes by them. The roles of
inputs (R2); who is usable, and how the width counts it (R28).
-/

namespace Sys2Proof

theorem Eight.set_of_get {α : Type} {v : Eight α} {i : Sin} {x : α} (h : v.get i = x) : v.set i x = v := by
  subst h
  cases i <;> rfl

namespace Machine

/-! ### Publications -/

theorem State.linkNotice_stream (s : State) (c : NoticeCode) (a b : Nat) (p : Port) :
    (s.linkNotice c a b).streams.get p = { s.streams.get p with
      waiting := (s.streams.get p).waiting ++ [⟨.link, s.siu.stamp, s.phase, .notice c a b⟩] } :=
  s.publish_stream _ _ p

/-- The publications of a tracker that holds a note, and none of one that holds none (R89). -/
theorem State.publishTrack_stream (s : State) (n : StringNo) (k : TrackKind) (p : Port) :
    (s.publishTrack n k).streams.get p = { s.streams.get p with
      waiting := s.waitsAfter p n ((s.trackers.get n).note.toList.map fun h =>
        .track n k h (levelOf (s.trackers.get n).e)) } := by
  cases hn : (s.trackers.get n).note with
  | none => simp [State.publishTrack_of_no_note hn, State.waitsAfter]
  | some h => simp [State.publishTrack_of_note hn, State.publish_stream, State.waitsAfter]

theorem State.adoptBank_stream (s : State) (n : StringNo) (p : Port) :
    (s.adoptBank n).streams.get p =
      { s.streams.get p with waiting := s.waitsAfter p n (s.adoption n) } := by
  unfold State.adoptBank
  by_cases h : (s.trackers.get n).bank = s.store.requested.get n <;>
    simp [h, State.waitsAfter, State.adoption, State.publish_stream]

/-- An entry to SILENT publishes the adoption of a pending bank, and nothing else (R81, R91). -/
theorem State.enterSilent_stream (s : State) (n : StringNo) (p : Port) :
    (s.enterSilent n).streams.get p =
      { s.streams.get p with waiting := s.waitsAfter p n (s.adoption n) } := by
  simp [State.enterSilent, State.adoptBank_stream, State.waitsAfter, State.adoption]

theorem State.enterMuted_of_muted {s : State} {n : StringNo} (c : EndCause)
    (h : (s.trackers.get n).state = .muted) : s.enterMuted n c = s :=
  if_pos h

/-- An entry to MUTED publishes the end of a held note, and nothing else (R78). -/
theorem State.enterMuted_stream {s : State} {n : StringNo} (c : EndCause) (p : Port)
    (h : (s.trackers.get n).state ≠ .muted) :
    (s.enterMuted n c).streams.get p = { s.streams.get p with
      waiting := s.waitsAfter p n ((s.trackers.get n).note.toList.map fun m =>
        .track n (.ended c) m (levelOf (s.trackers.get n).e)) } := by
  simp [State.enterMuted, h, State.publishTrack_stream]

theorem State.enterMuted_note {s : State} {n : StringNo} (c : EndCause)
    (h : (s.trackers.get n).state ≠ .muted) : ((s.enterMuted n c).trackers.get n).note = none := by
  simp [State.enterMuted, h]

/-- A change of width is published, an unchanged one is not (R28). -/
theorem State.noticeWidth_of_eq {s : State} {w : Nat} (h : s.link.width = w) : s.noticeWidth w = s :=
  if_pos h

theorem State.noticeWidth_of_ne {s : State} {w : Nat} (h : s.link.width ≠ w) :
    s.noticeWidth w = s.linkNotice .width s.link.width w :=
  if_neg h

/-! ### Usability and width -/

/-- What makes a string usable (R28). -/
theorem State.usable_iff (s : State) (n : StringNo) : s.usable n = true ↔
    s.link.state = .active ∧ ∃ i, s.store.global.map.get n = some i ∧ s.link.dropped.get i = false := by
  cases h : s.store.global.map.get n <;> simp [State.usable, conditioned, h]

/-- Usability is read from link state, dropped flags and map alone (R28). -/
theorem State.usable_congr {s t : State} (hl : t.link.state = s.link.state)
    (hd : t.link.dropped = s.link.dropped) (hg : t.store.global = s.store.global) (n : StringNo) :
    t.usable n = s.usable n := by
  simp [State.usable, hl, hd, hg]

theorem State.usableCount_congr {s t : State} (h : ∀ n, t.usable n = s.usable n) :
    t.usableCount = s.usableCount := by
  rw [State.usableCount, State.usableCount, funext h]

/-- Where one string loses its usability and none gains it, the count falls. -/
theorem State.usableCount_lt {s t : State} {n : StringNo} (hle : ∀ m, t.usable m = true → s.usable m = true)
    (hs : s.usable n = true) (ht : t.usable n = false) : t.usableCount < s.usableCount := by
  have hsub : StringNo.all.filter t.usable = (StringNo.all.filter s.usable).filter t.usable := by
    rw [List.filter_filter]
    exact List.filter_congr fun m _ => by
      cases hm : t.usable m <;> simp [hle m, hm]
  rw [State.usableCount, State.usableCount, hsub]
  exact List.length_filter_lt_length_iff_exists.mpr
    ⟨n, List.mem_filter.mpr ⟨n.mem_all, hs⟩, by simp [ht]⟩

/-- Where one string alone loses its usability, the count falls by 1. -/
theorem State.usableCount_succ {s t : State} {n : StringNo} (hs : s.usable n = true)
    (ht : ∀ m, t.usable m = (s.usable m && m != n)) : t.usableCount + 1 = s.usableCount := by
  have hmem : n ∈ StringNo.all.filter s.usable := List.mem_filter.mpr ⟨n.mem_all, hs⟩
  have hnodup : (StringNo.all.filter s.usable).Nodup := List.Nodup.filter _ (by decide)
  have hsub : StringNo.all.filter t.usable = (StringNo.all.filter s.usable).erase n := by
    rw [hnodup.erase_eq_filter, List.filter_filter]
    exact List.filter_congr fun m _ => by rw [ht, Bool.and_comm]
  rw [State.usableCount, hsub, List.length_erase_of_mem hmem]
  exact Nat.sub_add_cancel (List.length_pos_of_mem hmem)

theorem Global.analog_iff (g : Global) (i : Sin) : g.analog i = true ↔ i.number < g.na := by
  simp [Global.analog]

theorem Global.analog_eq_false_iff (g : Global) (i : Sin) : g.analog i = false ↔ ¬ i.number < g.na := by
  simp [Global.analog]

/-- The string whose map entry names an input (R2). -/
theorem Global.map_of_stringOf {g : Global} {i : Sin} {n : StringNo} (h : g.stringOf i = some n) :
    g.map.get n = some i := by
  simpa using List.find?_some h

theorem Global.stringOf_isSome_iff (g : Global) (i : Sin) :
    (g.stringOf i).isSome = true ↔ ∃ n, g.map.get n = some i := by
  simp [Global.stringOf, StringNo.mem_all]

/-- No two entries of a legal map name one input (R102). -/
theorem Global.map_injective {g : Global} (h : g.legal = true) {n m : StringNo} {i : Sin}
    (hn : g.map.get n = some i) (hm : g.map.get m = some i) : n = m := by
  simp only [Global.legal, Bool.and_eq_true, List.all_eq_true] at h
  obtain ⟨-, hdistinct⟩ := h
  simpa [hn, hm] using hdistinct n n.mem_all m m.mem_all

/-! ### What the invariants of the records and of the link say -/

theorem State.recordsOk_legal {s : State} (h : s.recordsOk = true) : s.store.global.legal = true := by
  simp only [State.recordsOk, Bool.and_eq_true] at h
  obtain ⟨⟨⟨hlegal, -⟩, -⟩, -⟩ := h
  exact hlegal

theorem State.linkOk_width {s : State} (h : s.linkOk = true) : s.link.width = s.usableCount := by
  simp only [State.linkOk, Bool.and_eq_true, beq_iff_eq] at h
  obtain ⟨⟨⟨-, hwidth⟩, -⟩, -⟩ := h
  exact hwidth

theorem State.linkOk_usable {s : State} (h : s.linkOk = true) (n : StringNo) :
    s.usable n = true ↔ (s.trackers.get n).state ≠ .muted := by
  simp only [State.linkOk, Bool.and_eq_true, List.all_eq_true] at h
  obtain ⟨⟨-, husable⟩, -⟩ := h
  simp [beq_iff_eq.mp (husable n n.mem_all)]

theorem State.linkOk_target {s : State} (h : s.linkOk = true) {t : Target}
    (ht : s.learn.state.open? = some t) : s.usable t.string = true := by
  simp only [State.linkOk, Bool.and_eq_true] at h
  obtain ⟨-, htarget⟩ := h
  simpa [ht] using htarget

end Machine
end Sys2Proof
end

section
/-!
PROOF. Stuck episodes and stuck-long reports (R5, R6), and the channel drop they bring (R27, R28).
-/

namespace Sys2Proof.Machine

theorem exec_stuckEpisodeBegin (i : Sin) (s : State) :
    exec (.stuckEpisodeBegin i) s = .next (s.takeEpisode i) := rfl

theorem exec_stuckLong (i : Sin) (s : State) : exec (.stuckLong i) s =
    if (s.siu.inputs.get i).longDue then .next (s.finishTrackers.takeStuckLong i) else .next s := rfl

theorem SenseInput.beginDue_iff (u : SenseInput) :
    u.beginDue = true ↔ 480 ≤ u.rail.length ∧ u.episode = false := by
  simp only [SenseInput.beginDue, SenseInput.stuckNow, Bool.and_eq_true, decide_eq_true_eq,
    Bool.not_eq_true']
  rfl

theorem SenseInput.longDue_iff (u : SenseInput) :
    u.longDue = true ↔ 4096 ≤ u.rail.length ∧ u.longReported = false := by
  simp only [SenseInput.longDue, Bool.and_eq_true, decide_eq_true_eq, Bool.not_eq_true']
  rfl

theorem State.finishTrackers_of_quiet {s : State} (h : s.trackersQuiet = true) :
    s.finishTrackers = s :=
  State.finishTrackers_of_not_due fun n => by
    simpa using List.all_eq_true.mp h n n.mem_all

/-- With the trackers' decisions complete the row is the report itself, due or not (R77, R94). -/
theorem exec_stuckLong_of_quiet {s : State} (i : Sin) (h : s.trackersQuiet = true) :
    exec (.stuckLong i) s = .next (s.takeStuckLong i) := by
  rw [exec_stuckLong, State.finishTrackers_of_quiet h]
  split
  · rfl
  · next hd => rw [State.takeStuckLong_of_not_due (by simpa using hd)]

/-! ### The report and the drop in their parts -/

/-- The stuck-long report of an input is made (R6). -/
def State.reportLong (s : State) (i : Sin) : State := s.updInput i fun u => { u with longReported := true }

/-- The dropped flag of an input is set (R27). -/
def State.flagDropped (s : State) (i : Sin) : State :=
  { s with link := { s.link with dropped := s.link.dropped.set i true } }

/-- A report that is due is made; the monitor then drops the input or changes nothing (R6, R27). -/
theorem State.takeStuckLong_of_due {s : State} {i : Sin} (h : (s.siu.inputs.get i).longDue = true) :
    s.takeStuckLong i =
      if s.dropsChannel i then (s.reportLong i).dropChannel i else s.reportLong i :=
  if_pos h

/-- The drop of an input that no string is mapped to. -/
theorem State.dropChannel_of_none {s : State} {i : Sin} (h : s.store.global.stringOf i = none) :
    s.dropChannel i = ((s.flagDropped i).linkNotice .channelDrop i.number 0).raiseBoth .fault := by
  simp only [State.dropChannel, h]
  rfl

/-- The drop of an input up to the change of the width: flag, notice, FAULT, and its string muted. -/
def State.muteDropped (s : State) (i : Sin) (n : StringNo) : State :=
  State.enterMuted (((s.flagDropped i).linkNotice .channelDrop i.number n.number).raiseBoth .fault) n .mute

/-- The drop of an input that a string is mapped to. -/
theorem State.dropChannel_of_some {s : State} {i : Sin} {n : StringNo}
    (h : s.store.global.stringOf i = some n) : s.dropChannel i =
      ((s.muteDropped i n).setWidth.noticeWidth s.link.width).learnDropped n := by
  simp only [State.dropChannel, h]
  rfl

/-- What a drop leaves to the Learn Engine: a learn of that string ends FAILED LINK (R127). -/
theorem State.learnDropped_of_target {s : State} {t : Target} (h : s.learn.state.open? = some t) :
    s.learnDropped t.string = s.learnEnds t (LastResult.failure .link) := by
  simp only [State.learnDropped, State.failLearn, h, if_true]
  rfl

theorem State.learnDropped_of_other {s : State} {n : StringNo}
    (h : ∀ t, s.learn.state.open? = some t → n ≠ t.string) : s.learnDropped n = s := by
  unfold State.learnDropped
  split
  · rfl
  · next t ht => exact if_neg (h t ht)

/-- Exactly the strings of other inputs are usable behind the dropped flag of one (R28). -/
theorem State.flagDropped_usable_iff (s : State) (i : Sin) (m : StringNo) :
    (s.flagDropped i).usable m = true ↔ s.usable m = true ∧ s.store.global.map.get m ≠ some i := by
  simp only [State.usable_iff, State.flagDropped, Eight.get_set]
  constructor
  · rintro ⟨ha, j, hj, hd⟩
    have hji : j ≠ i := fun e => by simp [e] at hd
    rw [if_neg hji] at hd
    exact ⟨⟨ha, j, hj, hd⟩, by simpa [hj] using hji⟩
  · rintro ⟨⟨ha, j, hj, hd⟩, hne⟩
    have hji : j ≠ i := fun e => hne (e ▸ hj)
    exact ⟨ha, j, hj, by rwa [if_neg hji]⟩

theorem State.flagDropped_usable {s : State} {i : Sin} {n : StringNo}
    (h : s.store.global.stringOf i = some n) : (s.flagDropped i).usable n = false := by
  have := (s.flagDropped_usable_iff i n).not.mpr (by simp [Global.map_of_stringOf h])
  simpa using this

/-- No other string of a legal map is touched. -/
theorem State.flagDropped_usable_eq {s : State} {i : Sin} {n : StringNo}
    (hg : s.store.global.legal = true) (h : s.store.global.stringOf i = some n) (m : StringNo) :
    (s.flagDropped i).usable m = (s.usable m && m != n) := by
  rw [Bool.eq_iff_iff, State.flagDropped_usable_iff, Bool.and_eq_true, bne_iff_ne]
  have hm : s.store.global.map.get m = some i ↔ m = n :=
    ⟨fun hm => Global.map_injective hg hm (Global.map_of_stringOf h),
      fun e => e ▸ Global.map_of_stringOf h⟩
  rw [Ne, hm]

/-- The string of an input that is not dropped is usable in ACTIVE (R28). -/
theorem State.usable_of_stringOf {s : State} {i : Sin} {n : StringNo} (ha : s.link.state = .active)
    (hd : s.link.dropped.get i = false) (h : s.store.global.stringOf i = some n) : s.usable n = true :=
  (s.usable_iff n).mpr ⟨ha, i, Global.map_of_stringOf h, hd⟩

/-! ### The drop of a mapped input, up to the change of the width -/

@[simp] theorem State.muteDropped_keeps (s : State) (i : Sin) (n : StringNo) :
    (s.muteDropped i n).siu = s.siu ∧ (s.muteDropped i n).link = (s.flagDropped i).link ∧
    (s.muteDropped i n).cond = s.cond ∧ (s.muteDropped i n).store = s.store ∧
    (s.muteDropped i n).learn = s.learn ∧ (s.muteDropped i n).phase = s.phase := by
  refine ⟨?_, ?_, ?_, ?_, ?_, ?_⟩ <;> simp [State.muteDropped] <;> rfl

/-- FAULT is raised at both ports (R27). -/
theorem State.muteDropped_port (s : State) (i : Sin) (n : StringNo) (p : Port) :
    (s.muteDropped i n).ports.get p =
      { s.ports.get p with flags := (s.ports.get p).flags ||| Flag.fault.word } := by
  simp only [State.muteDropped, State.enterMuted_keeps, State.raiseBoth_port]
  rfl

theorem State.muteDropped_other (s : State) (i : Sin) {n m : StringNo} (h : m ≠ n) :
    (s.muteDropped i n).trackers.get m = s.trackers.get m :=
  State.enterMuted_other _ .mute h

/-- CHANNEL_DROP is published, then the END of a held note (R27, R78). -/
theorem State.muteDropped_waiting {s : State} (i : Sin) {n : StringNo} (p : Port)
    (h : (s.trackers.get n).state ≠ .muted) : ((s.muteDropped i n).streams.get p).waiting =
      (s.streams.get p).waiting ++
        [⟨.link, s.siu.stamp, s.phase, .notice .channelDrop i.number n.number⟩] ++
        (s.trackers.get n).note.toList.map fun m =>
          ⟨.tracker n, s.siu.stamp, s.phase, .track n (.ended .mute) m (levelOf (s.trackers.get n).e)⟩ := by
  rw [State.muteDropped, State.enterMuted_stream (s := ((s.flagDropped i).linkNotice _ _ _).raiseBoth _)
    .mute p h]
  simp [State.waitsAfter, State.linkNotice_stream, State.flagDropped]

/-! ### The width behind a drop -/

/-- The width that a drop leaves: the strings that are usable with the flag set. -/
theorem State.muteDropped_usable (s : State) (i : Sin) (n m : StringNo) :
    (s.muteDropped i n).usable m = (s.flagDropped i).usable m :=
  State.usable_congr (by simp) (by simp) (by simp [State.flagDropped]) m

theorem State.setWidth_of_eq {s : State} (h : s.link.width = s.usableCount) : s.setWidth = s := by
  rw [State.setWidth, ← h]

/-- The drop of the input of a usable string, before the Learn Engine hears of it. -/
def State.dropMapped (s : State) (i : Sin) (n : StringNo) : State :=
  (s.muteDropped i n).setWidth.linkNotice .width (s.flagDropped i).usableCount s.link.width

/-- The drop of the input of a usable string always changes the width, so WIDTH is published (R28). -/
theorem State.dropChannel_of_usable {s : State} {i : Sin} {n : StringNo} (hok : s.linkOk = true)
    (hs : s.store.global.stringOf i = some n) (hu : s.usable n = true) :
    s.dropChannel i = (s.dropMapped i n).learnDropped n := by
  have hcount : (s.muteDropped i n).usableCount = (s.flagDropped i).usableCount :=
    State.usableCount_congr (s.muteDropped_usable i n)
  have hlt : (s.flagDropped i).usableCount < s.usableCount :=
    State.usableCount_lt (fun m hm => ((s.flagDropped_usable_iff i m).mp hm).1) hu
      (State.flagDropped_usable hs)
  have hwidth : (s.muteDropped i n).setWidth.link.width = (s.flagDropped i).usableCount := hcount
  have hne : (s.muteDropped i n).setWidth.link.width ≠ s.link.width := by
    rw [hwidth, State.linkOk_width hok]
    exact hlt.ne
  rw [State.dropChannel_of_some hs, State.noticeWidth_of_ne hne, hwidth]
  rfl

theorem State.dropMapped_keeps (s : State) (i : Sin) (n : StringNo) :
    (s.dropMapped i n).siu = s.siu ∧ (s.dropMapped i n).learn = s.learn ∧
    (s.dropMapped i n).trackers = (s.muteDropped i n).trackers := by
  refine ⟨?_, ?_, ?_⟩ <;> simp [State.dropMapped]

theorem State.dropMapped_link (s : State) (i : Sin) (n : StringNo) : (s.dropMapped i n).link =
    { (s.flagDropped i).link with width := (s.flagDropped i).usableCount } := by
  have hcount : (s.muteDropped i n).usableCount = (s.flagDropped i).usableCount :=
    State.usableCount_congr (s.muteDropped_usable i n)
  simp [State.dropMapped, State.setWidth, hcount]

theorem State.dropMapped_usable (s : State) (i : Sin) (n m : StringNo) :
    (s.dropMapped i n).usable m = (s.flagDropped i).usable m :=
  s.muteDropped_usable i n m

theorem State.dropMapped_port (s : State) (i : Sin) (n : StringNo) (p : Port) :
    (s.dropMapped i n).ports.get p =
      { s.ports.get p with flags := (s.ports.get p).flags ||| Flag.fault.word } := by
  simpa [State.dropMapped] using s.muteDropped_port i n p

/-- CHANNEL_DROP, the END of a held note and WIDTH are published in this order (R27, R28, R78). -/
theorem State.dropMapped_waiting {s : State} (i : Sin) {n : StringNo} (p : Port)
    (h : (s.trackers.get n).state ≠ .muted) : ((s.dropMapped i n).streams.get p).waiting =
      (s.streams.get p).waiting ++
        [⟨.link, s.siu.stamp, s.phase, .notice .channelDrop i.number n.number⟩] ++
        ((s.trackers.get n).note.toList.map fun m => ⟨.tracker n, s.siu.stamp, s.phase,
          .track n (.ended .mute) m (levelOf (s.trackers.get n).e)⟩) ++
        [⟨.link, s.siu.stamp, s.phase,
          .notice .width (s.flagDropped i).usableCount s.link.width⟩] := by
  simp [State.dropMapped, State.linkNotice_stream, State.muteDropped_waiting i p h]

/-- The drop of an input that is dropped already changes no tracker, no width and no learn. -/
theorem State.dropChannel_of_dropped {s : State} {i : Sin} (hok : s.linkOk = true)
    (hd : s.link.dropped.get i = true) : s.dropChannel i =
      (s.linkNotice .channelDrop i.number (match s.store.global.stringOf i with
        | none => 0
        | some n => n.number)).raiseBoth .fault := by
  have hflag : s.flagDropped i = s := by simp only [State.flagDropped, Eight.set_of_get hd]
  cases hs : s.store.global.stringOf i with
  | none => rw [State.dropChannel_of_none hs, hflag]
  | some n =>
    have hn : s.usable n = false := hflag ▸ State.flagDropped_usable hs
    have hmuted : (s.trackers.get n).state = .muted := by
      simpa [hn] using State.linkOk_usable hok n
    have hmute : s.muteDropped i n =
        (s.linkNotice .channelDrop i.number n.number).raiseBoth .fault := by
      rw [State.muteDropped, hflag]
      exact State.enterMuted_of_muted .mute hmuted
    have hwidth : (s.muteDropped i n).setWidth = s.muteDropped i n :=
      State.setWidth_of_eq (by rw [hmute]; exact State.linkOk_width hok)
    rw [State.dropChannel_of_some hs, hwidth, hmute,
      State.noticeWidth_of_eq (s := (s.linkNotice _ _ _).raiseBoth _) (w := s.link.width) rfl,
      State.learnDropped_of_other]
    rintro t ht rfl
    rw [State.linkOk_target hok ht] at hn
    cases hn

/-- A drop makes no link transition and changes the dropped flag and the width alone (R27). -/
theorem State.dropChannel_link (s : State) (i : Sin) : (s.dropChannel i).link =
    { s.link with
      dropped := s.link.dropped.set i true, width := (s.dropChannel i).link.width } := by
  cases hs : s.store.global.stringOf i with
  | none => rw [State.dropChannel_of_none hs]; rfl
  | some n => rw [State.dropChannel_of_some hs]; simp [State.setWidth, State.flagDropped]

/-! ### The four claims -/

theorem stuckEpisodeBegins : Claims.StuckEpisodeBegins := by
  intro i s
  simp only [exec_stuckEpisodeBegin, State.takeEpisode, SenseInput.beginDue_iff]
  rfl

theorem stuckLongIgnored : Claims.StuckLongIgnored := by
  intro i s hq hl
  have hdrop : s.dropsChannel i = false := by
    rcases hl with hl | ⟨hd, hw⟩
    · simp [State.dropsChannel, hl]
    · simp [State.dropsChannel, hd, hw]
  rw [exec_stuckLong_of_quiet i hq]
  by_cases hdue : (s.siu.inputs.get i).longDue = true
  · rw [State.takeStuckLong_of_due hdue, hdrop]
    simp only [← SenseInput.longDue_iff, hdue]
    rfl
  · rw [State.takeStuckLong_of_not_due (by simpa using hdue)]
    simp only [← SenseInput.longDue_iff, hdue]
    rfl

theorem stuckLongDropsTheChannel : Claims.StuckLongDropsTheChannel := by
  intro i s hq hok htr hact hnd hlen hrep
  have hdue : (s.siu.inputs.get i).longDue = true := (SenseInput.longDue_iff _).mpr ⟨hlen, hrep⟩
  have hdrop : s.dropsChannel i = true := by simp [State.dropsChannel, hact, hnd]
  have hexec : exec (.stuckLong i) s = .next ((s.reportLong i).dropChannel i) := by
    rw [exec_stuckLong_of_quiet i hq, State.takeStuckLong_of_due hdue, if_pos hdrop]
  have hlink := (s.reportLong i).dropChannel_link i
  obtain ⟨hsiu, hcond, hstore, -, -⟩ := (s.reportLong i).dropChannel_keeps i
  refine ⟨_, hexec, hsiu, by rw [hlink]; rfl, by rw [hlink]; rfl, by rw [hlink]; exact hact,
    by rw [hlink]; rfl, by rw [hlink]; rfl, by rw [hlink]; rfl, hstore, hcond, ?_⟩
  cases hs : s.store.global.stringOf i with
  | none =>
    rw [State.dropChannel_of_none (s := s.reportLong i) hs]
    refine ⟨rfl, rfl, rfl, fun p => ⟨?_, ?_⟩⟩
    · rw [State.raiseBoth_port]
      rfl
    · rw [State.raiseBoth_streams, State.linkNotice_stream]
      rfl
  | some n =>
    have hu : (s.reportLong i).usable n = true := State.usable_of_stringOf hact hnd hs
    have hsounds : ((s.reportLong i).trackers.get n).state ≠ .muted := (State.linkOk_usable hok n).mp hu
    obtain ⟨hus, hul, hut⟩ := (s.reportLong i).dropMapped_keeps i n
    obtain ⟨-, hl, -, ht, hg, hst, -, -⟩ := ((s.reportLong i).dropMapped i n).learnDropped_keeps n
    have husable (m : StringNo) : (((s.reportLong i).dropMapped i n).learnDropped n).usable m =
        ((s.reportLong i).flagDropped i).usable m :=
      (State.usable_congr (by rw [hl]) (by rw [hl]) (by rw [hg]) m).trans
        ((s.reportLong i).dropMapped_usable i n m)
    rw [State.dropChannel_of_usable (s := s.reportLong i) hok hs hu]
    simp only [hl, ht, hst, hut, (s.reportLong i).dropMapped_link, husable,
      State.usableCount_congr husable, State.dropMapped_waiting i _ hsounds]
    refine ⟨State.enterMuted_state _ n .mute, State.enterMuted_note .mute hsounds,
      fun m hm => (s.reportLong i).muteDropped_other i hm, trivial, State.flagDropped_usable hs,
      fun hrec => ?_, ?_⟩
    · rw [State.usableCount_succ hu (State.flagDropped_usable_eq (State.recordsOk_legal hrec) hs)]
      exact (State.linkOk_width hok).symm
    · have hports (p : Port) : ((s.reportLong i).dropMapped i n).ports.get p =
          { s.ports.get p with flags := (s.ports.get p).flags ||| Flag.fault.word } :=
        (s.reportLong i).dropMapped_port i n p
      replace hul : ((s.reportLong i).dropMapped i n).learn = s.learn := hul
      cases ho : s.learn.state.open? with
      | none =>
        rw [State.learnDropped_of_other (by simp [hul, ho]), hul]
        exact ⟨rfl, fun p => ⟨by simp [hports], rfl⟩⟩
      | some g =>
        by_cases hn : n = g.string
        · subst hn
          rw [State.learnDropped_of_target (by rw [hul, ho])]
          refine ⟨by simp [State.learnEnds, hus, LastResult.failure]; rfl, fun p => ⟨?_, rfl⟩⟩
          by_cases hp : p = g.port <;> simp [State.learnEnds, State.raise_port, hports, raiseIn, hp]
        · rw [State.learnDropped_of_other (by simp [hul, ho, hn]), hul]
          exact ⟨by simp [hn], fun p => ⟨by simp [hports, hn], rfl⟩⟩

theorem stuckLongBehindTheWindowEnd : Claims.StuckLongBehindTheWindowEnd := by
  intro i s hq hok hact hd hw hlen hrep
  have hdue : (s.siu.inputs.get i).longDue = true := (SenseInput.longDue_iff _).mpr ⟨hlen, hrep⟩
  have hdrop : s.dropsChannel i = true := by simp [State.dropsChannel, hact, hw]
  rw [exec_stuckLong_of_quiet i hq, State.takeStuckLong_of_due hdue, if_pos hdrop,
    State.dropChannel_of_dropped (s := s.reportLong i) hok hd]
  rfl

/-- Settles O9: a report is ignored, drops its channel, or comes behind the window end that dropped it. -/
theorem stuckInputs : Obligations.StuckInputs :=
  ⟨stuckEpisodeBegins, stuckLongIgnored, stuckLongDropsTheChannel, stuckLongBehindTheWindowEnd⟩

end Sys2Proof.Machine
end

section
/-!
SUPPORT. A change made for each string in turn that reads of the part nothing but what all six leave
alone and its own tracker: what the six do together.
-/

namespace Sys2Proof.Machine

/-- The parts that a tracker's boundary reads besides its own context are those of another state. -/
def State.SameRules (s t : State) : Prop :=
  t.siu = s.siu ∧ t.link = s.link ∧ t.store = s.store ∧ t.phase = s.phase

/-- Tracker n becomes k and publishes `made` behind what waits, and nothing else that the other trackers
read changes. -/
def State.BoundaryOf (s t : State) (n : StringNo) (k : Tracker) (made : List Publication) : Prop :=
  s.SameRules t ∧ (∀ m, t.trackers.get m = if m = n then k else s.trackers.get m) ∧
    ∀ p, t.streams.get p = { s.streams.get p with waiting := s.waitsAfter p n made }

theorem State.SameRules.refl (s : State) : s.SameRules s := ⟨rfl, rfl, rfl, rfl⟩

theorem State.SameRules.trans {s t u : State} (h : s.SameRules t) (h' : t.SameRules u) : s.SameRules u := by
  obtain ⟨h1, h2, h3, h4⟩ := h
  obtain ⟨k1, k2, k3, k4⟩ := h'
  exact ⟨k1.trans h1, k2.trans h2, k3.trans h3, k4.trans h4⟩

/-- Two boundaries of one tracker, one behind the other. -/
theorem State.BoundaryOf.trans {s t u : State} {n : StringNo} {k l : Tracker} {a b : List Publication}
    (h : s.BoundaryOf t n k a) (h' : t.BoundaryOf u n l b) : s.BoundaryOf u n l (a ++ b) := by
  obtain ⟨hr, ht, hw⟩ := h
  obtain ⟨hr', ht', hw'⟩ := h'
  refine ⟨hr.trans hr', fun m => ?_, fun p => ?_⟩
  · rw [ht', ht]
    by_cases hm : m = n <;> simp [hm]
  · obtain ⟨hsiu, -, -, hphase⟩ := hr
    simp [hw', hw, State.waitsAfter, hsiu, hphase]

/-- What is published for a string in turn waits in the order of the strings. -/
def State.waitingOf (s : State) (l : List StringNo) (made : StringNo → List Publication) : List Waiting :=
  l.flatMap fun n => (made n).map fun u => ⟨.tracker n, s.siu.stamp, s.phase, u⟩

theorem State.foldl_boundaries {s : State} {f : StringNo → State → State} {k : StringNo → Tracker}
    {made : StringNo → List Publication}
    (h : ∀ n t, s.SameRules t → t.trackers.get n = s.trackers.get n →
      t.BoundaryOf (f n t) n (k n) (made n)) (l : List StringNo) :
    ∀ t : State, l.Nodup → s.SameRules t → (∀ n ∈ l, t.trackers.get n = s.trackers.get n) →
      s.SameRules (l.foldl (fun t n => f n t) t) ∧
      (∀ m, (l.foldl (fun t n => f n t) t).trackers.get m = if m ∈ l then k m else t.trackers.get m) ∧
      ∀ p, (l.foldl (fun t n => f n t) t).streams.get p = { t.streams.get p with
        waiting := (t.streams.get p).waiting ++ s.waitingOf l made } := by
  induction l with
  | nil => intro t _ hs _; exact ⟨hs, by simp, by simp [State.waitingOf]⟩
  | cons n l ih =>
    intro t hn hs ht
    obtain ⟨hnl, hl⟩ := List.nodup_cons.mp hn
    obtain ⟨hr, hk, hw⟩ := h n t hs (ht n (List.mem_cons_self ..))
    have hrest (m : StringNo) (hm : m ∈ l) : (f n t).trackers.get m = s.trackers.get m := by
      have hmn : m ≠ n := fun e => hnl (e ▸ hm)
      rw [hk, if_neg hmn, ht m (List.mem_cons_of_mem _ hm)]
    obtain ⟨hr', hk', hw'⟩ := ih (f n t) hl (hs.trans hr) hrest
    obtain ⟨hsiu, -, -, hphase⟩ := hs
    refine ⟨hr', fun m => ?_, fun p => ?_⟩
    · rw [List.foldl_cons, hk', hk]
      by_cases hm : m ∈ l
      · simp [hm]
      · by_cases hmn : m = n <;> simp [hm, hmn, hnl]
    · rw [List.foldl_cons, hw', hw]
      simp [State.waitingOf, State.waitsAfter, hsiu, hphase]

/-- Each tracker takes its own boundary, and the publications wait in the order of the strings. -/
theorem State.forStrings_boundaries {s : State} {f : StringNo → State → State} {k : StringNo → Tracker}
    {made : StringNo → List Publication}
    (h : ∀ n t, s.SameRules t → t.trackers.get n = s.trackers.get n →
      t.BoundaryOf (f n t) n (k n) (made n)) :
    s.SameRules (s.forStrings f) ∧ (∀ n, (s.forStrings f).trackers.get n = k n) ∧
      ∀ p, (s.forStrings f).streams.get p = { s.streams.get p with
        waiting := (s.streams.get p).waiting ++ s.waitingOf StringNo.all made } := by
  obtain ⟨hr, hk, hw⟩ := State.foldl_boundaries h StringNo.all s (by decide) (.refl s) fun _ _ => rfl
  exact ⟨hr, fun n => (hk n).trans (if_pos n.mem_all), hw⟩

/-! ### The boundaries -/

/-- Nothing happens to a tracker. -/
theorem State.BoundaryOf.refl (s : State) (n : StringNo) : s.BoundaryOf s n (s.trackers.get n) [] :=
  ⟨.refl s, fun m => by by_cases h : m = n <;> simp [h], fun p => by simp [State.waitsAfter]⟩

theorem State.publishTrack_boundary (s : State) (n : StringNo) (c : TrackKind) :
    s.BoundaryOf (s.publishTrack n c) n (s.trackers.get n) ((s.trackers.get n).note.toList.map fun h =>
      .track n c h (levelOf (s.trackers.get n).e)) := by
  refine ⟨by simp [State.SameRules], fun m => ?_, s.publishTrack_stream n c⟩
  by_cases h : m = n <;> simp [h]

theorem State.enterSilent_boundary (s : State) (n : StringNo) :
    s.BoundaryOf (s.enterSilent n) n (s.silentEntry n (s.trackers.get n)) (s.adoption n) := by
  obtain ⟨hother, hsame, -⟩ := s.enterSilent_spec n
  refine ⟨by simp [State.SameRules], fun m => ?_, s.enterSilent_stream n⟩
  by_cases h : m = n
  · rw [if_pos h, h, hsame]
  · rw [if_neg h, hother m h]

/-- A tracker as it is after an entry to MUTED (R78). -/
def Tracker.mutedEntry (t : Tracker) : Tracker :=
  { t with state := .muted, note := none, onsetTimer := none, releaseTimer := none, levelTimer := none,
           e := 0, clearHistory := true, clearDetector := true }

theorem State.enterMuted_boundary {s : State} {n : StringNo} (c : EndCause)
    (h : (s.trackers.get n).state ≠ .muted) :
    s.BoundaryOf (s.enterMuted n c) n (s.trackers.get n).mutedEntry
      ((s.trackers.get n).note.toList.map fun m => .track n (.ended c) m (levelOf (s.trackers.get n).e)) := by
  refine ⟨by simp [State.SameRules], fun m => ?_, fun p => State.enterMuted_stream c p h⟩
  by_cases hm : m = n
  · simp [State.enterMuted, h, hm, Tracker.mutedEntry]
  · rw [if_neg hm, State.enterMuted_other s c hm]

/-! ### What the boundaries read -/

theorem State.SameRules.usable {s t : State} (h : s.SameRules t) (n : StringNo) : t.usable n = s.usable n := by
  obtain ⟨-, hl, hg, -⟩ := h
  exact State.usable_congr (by rw [hl]) (by rw [hl]) (by rw [hg]) n

theorem State.adoption_congr {s t : State} {n : StringNo} (h : t.store.requested = s.store.requested)
    (ht : t.trackers.get n = s.trackers.get n) : t.adoption n = s.adoption n := by
  simp [State.adoption, h, ht]

theorem State.silentEntry_congr {s t : State} (hs : t.store = s.store)
    (hf : t.link.floors = s.link.floors) (n : StringNo) (k : Tracker) :
    t.silentEntry n k = s.silentEntry n k := by
  simp [State.silentEntry, State.copyFor, State.floorOf, hs, hf]

end Sys2Proof.Machine
end

section
/-!
PROOF. What an accepted global record does to the blocks that read it (R2, R23, R28, R43 to R45, R96,
R113 to R115).
-/

namespace Sys2Proof.Machine

/-- The part once an accepted global record is stored and the SIU and the Conditioner have taken it. -/
def State.storedGlobal (s : State) (g : Global) : State :=
  (({ s with store := { s.store with global := g } } : State).siuRoles s.store.global g).conditionerCommit
    s.store.global g

theorem State.commitGlobal_eq (s : State) (g : Global) : s.commitGlobal g =
    ((s.storedGlobal g).linkCommit s.store.global g).learnGlobalCommit s.store.global g := rfl

@[simp] theorem State.storedGlobal_keeps (s : State) (g : Global) :
    (s.storedGlobal g).link = s.link ∧ (s.storedGlobal g).trackers = s.trackers ∧
    (s.storedGlobal g).store = { s.store with global := g } ∧ (s.storedGlobal g).learn = s.learn ∧
    (s.storedGlobal g).streams = s.streams ∧ (s.storedGlobal g).ports = s.ports ∧
    (s.storedGlobal g).phase = s.phase := ⟨rfl, rfl, rfl, rfl, rfl, rfl, rfl⟩

theorem State.commitGlobal_cond (s : State) (g : Global) (i : Sin) :
    (s.commitGlobal g).cond.dc.get i = (s.cond.dc.get i).afterCommit s.store.global g i := by
  simp [State.commitGlobal_eq, State.storedGlobal, State.conditionerCommit]

theorem State.commitGlobal_sat (s : State) (g : Global) : (s.commitGlobal g).cond.sat = s.cond.sat := by
  simp [State.commitGlobal_eq, State.storedGlobal, State.conditionerCommit]

theorem State.commitGlobal_siu (s : State) (g : Global) :
    (s.commitGlobal g).siu = (s.siuRoles s.store.global g).siu := by
  simp [State.commitGlobal_eq, State.storedGlobal]
  rfl

/-- The learn aside, the link monitor is the last to take the record. -/
theorem State.commitGlobal_keeps_link (s : State) (g : Global) :
    (s.commitGlobal g).link = ((s.storedGlobal g).linkCommit s.store.global g).link ∧
    (s.commitGlobal g).trackers = ((s.storedGlobal g).linkCommit s.store.global g).trackers ∧
    (s.commitGlobal g).store = ((s.storedGlobal g).linkCommit s.store.global g).store ∧
    (s.commitGlobal g).streams = ((s.storedGlobal g).linkCommit s.store.global g).streams := by
  simp [State.commitGlobal_eq]

/-! ### The Conditioner and the SIU (R2, R37, R43 to R45) -/

theorem becomesUsed_iff (old new : Global) (i : Sin) : becomesUsed old new i = true ↔
    ∃ n, new.map.get n = some i ∧ old.map.get n ≠ some i := by
  simp [becomesUsed, StringNo.mem_all]

theorem Accumulator.afterCommit_of_digital (a : Accumulator) {old new : Global} {i : Sin}
    (h : new.analog i = false) : a.afterCommit old new i = .absent := by
  simp [Accumulator.afterCommit, h]

theorem Accumulator.afterCommit_of_used (a : Accumulator) {old new : Global} {i : Sin}
    (h : new.analog i = true) (hu : old.analog i = false ∨ becomesUsed old new i = true) :
    a.afterCommit old new i = .toLoad := by
  simp only [Accumulator.afterCommit, h, Bool.not_true, Bool.false_eq_true, if_false]
  exact if_pos (by simpa using hu)

theorem Accumulator.afterCommit_of_unused (a : Accumulator) {old new : Global} {i : Sin}
    (h : new.analog i = true) (ho : old.analog i = true) (hu : becomesUsed old new i = false) :
    a.afterCommit old new i = if old.gains.get i = new.gains.get i then a
      else if a = .toLoad then .toLoad else .held 0 := by
  by_cases hg : old.gains.get i = new.gains.get i
  · simp [Accumulator.afterCommit, h, ho, hu, hg]
  · cases a <;> simp [Accumulator.afterCommit, h, ho, hu, hg]

theorem State.siuRoles_inputs (s : State) (old new : Global) (i : Sin) :
    (s.siuRoles old new).siu.inputs.get i =
      (s.siu.inputs.get i).roleChange (old.analog i) (new.analog i) := by
  simp [State.siuRoles]

theorem State.siuRoles_aux (s : State) (old new : Global) (x : AuxNo) :
    (s.siuRoles old new).siu.aux x =
      if new.role x.sin = old.role x.sin then s.siu.aux x else AuxUnit.fresh := by
  cases x <;> exact ite_congr (propext eq_comm) (fun _ => rfl) fun _ => rfl

theorem wiringChanged_iff (old new : Global) : wiringChanged old new = true ↔
    new.na ≠ old.na ∨ new.gains ≠ old.gains ∨ new.map ≠ old.map := by
  rw [ne_comm, ne_comm (a := new.gains), ne_comm (a := new.map)]
  simp [wiringChanged, or_assoc]

/-- Outside ACTIVE a global record at most begins a running settle window again (R23, R96). -/
theorem State.linkCommit_of_not_active {s : State} (old new : Global) (h : s.link.state ≠ .active) :
    s.linkCommit old new = { s with link :=
      if s.link.state = .settling ∧ wiringChanged old new = true then s.link.beginWindow else s.link } := by
  by_cases hs : s.link.state = .settling
  · by_cases hw : wiringChanged old new = true <;> simp [State.linkCommit, hs, hw]
  · rw [if_neg fun hh => hs hh.1]
    cases hl : s.link.state <;> simp_all [State.linkCommit]

theorem globalCommitAtTheFrontEnd : Claims.GlobalCommitAtTheFrontEnd := by
  intro s g old t
  obtain ⟨hlink, htrackers, -, hstreams⟩ := s.commitGlobal_keeps_link g
  refine ⟨?_, s.commitGlobal_sat g, ?_, ?_, ?_, fun hact => ?_⟩
  · intro i
    simp only [← Global.analog_eq_false_iff, ← becomesUsed_iff, Bool.not_eq_false, not_or, Bool.not_eq_true, t,
      s.commitGlobal_cond g i]
    refine ⟨Accumulator.afterCommit_of_digital _, Accumulator.afterCommit_of_used _, ?_, ?_⟩
    · rintro hg ⟨ho, hu⟩ hgain
      rw [Accumulator.afterCommit_of_unused _ hg ho hu, if_neg hgain.symm]
    · rintro hg ⟨ho, hu⟩ hgain
      rw [Accumulator.afterCommit_of_unused _ hg ho hu, if_pos hgain.symm]
  · intro i
    simp only [t, s.commitGlobal_siu g, State.siuRoles_inputs, ← Global.analog_iff, SenseInput.roleChange,
      Bool.coe_iff_coe]
    split
    · rfl
    · exact ⟨rfl, rfl, rfl, rfl, rfl, rfl, rfl⟩
  · simp only [t, s.commitGlobal_siu g]
    rfl
  · intro x
    simp only [t, s.commitGlobal_siu g, State.siuRoles_aux]
    rfl
  · rw [State.linkCommit_of_not_active (s := s.storedGlobal g) _ g hact] at hlink htrackers hstreams
    refine ⟨htrackers, hstreams, hlink.trans ?_⟩
    simp only [wiringChanged_iff]
    rfl

/-! ### The link monitor and the trackers in ACTIVE (R28, R78, R79, R90, R91, R96) -/

theorem State.linkCommit_of_active {s : State} (old new : Global) (h : s.link.state = .active) :
    s.linkCommit old new = if new.na = old.na ∧ new.map = old.map then s else s.reevaluate old new := by
  simp only [State.linkCommit, h, eq_comm]

/-- The publications that end a held note because of a global record (R90). -/
def Tracker.remapEnds (k : Tracker) (n : StringNo) : List Publication :=
  k.note.toList.map fun h => .track n (.ended .remap) h (levelOf k.e)

/-- Tracker n as a global record taken in ACTIVE leaves it (R28, R78, R79, R96). -/
def State.remapEntry (s : State) (old new : Global) (n : StringNo) : Tracker :=
  let k := s.trackers.get n
  if s.usable n then
    if k.state = .muted ∨ new.map.get n ≠ old.map.get n then s.silentEntry n k else k
  else if k.state = .muted then k else k.mutedEntry

/-- What tracker n publishes at a global record taken in ACTIVE (R90, R91). -/
def State.remapMade (s : State) (old new : Global) (n : StringNo) : List Publication :=
  let k := s.trackers.get n
  if s.usable n then
    if k.state = .muted then s.adoption n
    else if new.map.get n = old.map.get n then [] else k.remapEnds n ++ s.adoption n
  else if k.state = .muted then [] else k.remapEnds n

theorem State.remapTracker_boundary (s : State) (old new : Global) (n : StringNo) :
    s.BoundaryOf (s.remapTracker old new n) n (s.remapEntry old new n) (s.remapMade old new n) := by
  by_cases hu : s.usable n = true
  · by_cases hm : (s.trackers.get n).state = .muted
    · simpa [State.remapTracker, State.remapEntry, State.remapMade, hu, hm] using s.enterSilent_boundary n
    by_cases hmap : old.map.get n = new.map.get n
    · simpa [State.remapTracker, State.remapEntry, State.remapMade, hu, hm, hmap] using
        State.BoundaryOf.refl s n
    · have hend := s.publishTrack_boundary n (.ended .remap)
      have hboth := hend.trans ((s.publishTrack n (.ended .remap)).enterSilent_boundary n)
      rw [State.adoption_congr (s := s) (by simp) (by simp),
        State.silentEntry_congr (s := s) (by simp) (by simp)] at hboth
      simpa [State.remapTracker, State.remapEntry, State.remapMade, hu, hm, hmap, Ne.symm hmap,
        Tracker.remapEnds] using hboth
  · by_cases hm : (s.trackers.get n).state = .muted
    · simpa [State.remapTracker, State.remapEntry, State.remapMade, hu, hm,
        State.enterMuted_of_muted .remap hm] using State.BoundaryOf.refl s n
    · simpa [State.remapTracker, State.remapEntry, State.remapMade, hu, hm, Tracker.remapEnds] using
        State.enterMuted_boundary .remap hm

theorem State.remapEntry_congr {s t : State} {n : StringNo} (h : s.SameRules t)
    (ht : t.trackers.get n = s.trackers.get n) (old new : Global) :
    t.remapEntry old new n = s.remapEntry old new n := by
  obtain ⟨-, hl, hs, -⟩ := id h
  simp only [State.remapEntry, h.usable, ht, State.silentEntry_congr hs (congrArg Link.floors hl)]

theorem State.remapMade_congr {s t : State} {n : StringNo} (h : s.SameRules t)
    (ht : t.trackers.get n = s.trackers.get n) (old new : Global) :
    t.remapMade old new n = s.remapMade old new n := by
  obtain ⟨-, -, hs, -⟩ := id h
  simp only [State.remapMade, h.usable, ht, State.adoption_congr (congrArg Store.requested hs) ht]

/-- The six trackers at a global record taken in ACTIVE. -/
theorem State.remap_all (s : State) (old new : Global) :
    s.SameRules (s.forStrings fun n t => t.remapTracker old new n) ∧
    (∀ n, (s.forStrings fun n t => t.remapTracker old new n).trackers.get n = s.remapEntry old new n) ∧
    ∀ p, (s.forStrings fun n t => t.remapTracker old new n).streams.get p = { s.streams.get p with
      waiting := (s.streams.get p).waiting ++ s.waitingOf StringNo.all (s.remapMade old new) } :=
  State.forStrings_boundaries fun n t h ht => by
    rw [← State.remapEntry_congr h ht, ← State.remapMade_congr h ht]
    exact t.remapTracker_boundary old new n

theorem State.noticeWidth_stream (s : State) (w : Nat) (p : Port) :
    (s.noticeWidth w).streams.get p = { s.streams.get p with
      waiting := (s.streams.get p).waiting ++ if s.link.width = w then []
        else [⟨.link, s.siu.stamp, s.phase, .notice .width s.link.width w⟩] } := by
  by_cases h : s.link.width = w
  · simp [State.noticeWidth_of_eq h, h]
  · simp [State.noticeWidth_of_ne h, h, State.linkNotice_stream]

/-- Floors and dropped flags with the roles read again, the trackers, the width and its notice (R28). -/
theorem State.reevaluate_spec (s : State) (old new : Global) :
    let f := s.roleFloors old new
    let t := s.reevaluate old new
    t.link = { f.link with width := f.usableCount } ∧
    (∀ n, t.trackers.get n = f.remapEntry old new n) ∧
    ∀ p, t.streams.get p = { s.streams.get p with
      waiting := (s.streams.get p).waiting ++ s.waitingOf StringNo.all (f.remapMade old new) ++
        if f.usableCount = s.link.width then []
        else [⟨.link, s.siu.stamp, s.phase, .notice .width f.usableCount s.link.width⟩] } := by
  intro f t
  obtain ⟨hrules, htrackers, hstreams⟩ := f.remap_all old new
  obtain ⟨hsiu, hlink, -, hphase⟩ := id hrules
  have hcount := State.usableCount_congr hrules.usable
  simp only [t, State.reevaluate]
  refine ⟨?_, fun n => ?_, fun p => ?_⟩
  · simp [State.setWidth, hcount, hlink, f]
  · simpa using htrackers n
  · simp [State.noticeWidth_stream, State.setWidth, hstreams, hsiu, hphase, hcount, f, State.waitingOf]

theorem globalCommitInActive : Claims.GlobalCommitInActive := by
  intro s g hact old t
  obtain ⟨hlink, htrackers, hstore, hstreams⟩ := s.commitGlobal_keeps_link g
  rw [State.linkCommit_of_active (s := s.storedGlobal g) _ g hact] at hlink htrackers hstore hstreams
  refine ⟨fun hna hmap => ?_, fun hchange => ?_⟩
  · rw [if_pos ⟨hna, hmap⟩] at hlink htrackers hstreams
    exact ⟨hlink, htrackers, hstreams⟩
  rw [if_neg (by tauto)] at hlink htrackers hstore hstreams
  obtain ⟨hl, ht, hw⟩ := (s.storedGlobal g).reevaluate_spec old g
  set f := (s.storedGlobal g).roleFloors old g with hf
  have hstate : f.link.state = .active := hact
  have htlink : t.link = { f.link with width := f.usableCount } := hlink.trans hl
  have htstore : t.store = f.store := by
    rw [hstore, ((s.storedGlobal g).reevaluate_keeps old g).2.2.1]
    rfl
  have husable (n : StringNo) : t.usable n = f.usable n :=
    State.usable_congr (by rw [htlink]) (by rw [htlink]) (by rw [htstore]) n
  have hsilent (n : StringNo) (k : Tracker) : t.silentEntry n k = f.silentEntry n k :=
    State.silentEntry_congr htstore (by rw [htlink]) n k
  refine ⟨by rw [htlink]; exact hact, ?_, by rw [htlink]; rfl, ?_, ?_, ?_⟩
  · rw [State.usableCount_congr husable, htlink]
  · intro i
    simp only [htlink, f, State.roleFloors, Eight.get_of]
    exact ⟨rfl, rfl⟩
  · intro n
    simp only [husable, hsilent]
    rw [htrackers, ht]
    by_cases hu : f.usable n = true
    · simp only [State.remapEntry, if_pos hu]
      rfl
    · by_cases hm : (f.trackers.get n).state = .muted
      · simp only [State.remapEntry, if_neg hu, if_pos hm]
        exact ⟨hm, fun hne => absurd hm hne⟩
      · simp only [State.remapEntry, if_neg hu, if_neg hm]
        exact ⟨rfl, fun _ => rfl⟩
  · intro p
    rw [hstreams, hw]
    simp only [husable, htlink]
    rfl

/-! ### The Learn Engine (R115, R128) -/

/-- What becomes of a learn at a global record rests on the learn, the stamp and the flags alone. -/
theorem State.learnGlobalCommit_congr {s t : State} (hl : t.learn = s.learn)
    (hs : t.siu.stamp = s.siu.stamp) (hp : t.ports = s.ports) (old new : Global) :
    (t.learnGlobalCommit old new).learn = (s.learnGlobalCommit old new).learn ∧
    (t.learnGlobalCommit old new).ports = (s.learnGlobalCommit old new).ports := by
  cases ho : s.learn.state.open? with
  | none => simp [State.learnGlobalCommit, hl, ho, hp]
  | some g =>
    by_cases hg : g.three.any (stringTouched old new) = true
    · simp only [State.learnGlobalCommit, State.failLearn, hl, ho, if_pos hg, State.endLearn, hs,
        State.raise, State.updPort, hp]
      trivial
    · simp only [State.learnGlobalCommit, hl, ho, if_neg hg, hp]
      trivial

theorem globalCommitAtTheLearn : Claims.GlobalCommitAtTheLearn := by
  intro s g
  obtain ⟨hsiu, -, -, hlearn, hports, -⟩ := (s.storedGlobal g).linkCommit_keeps s.store.global g
  have hstamp : ((s.storedGlobal g).linkCommit s.store.global g).siu.stamp = s.siu.stamp := by
    rw [hsiu]
    rfl
  exact State.learnGlobalCommit_congr (s := s) hlearn hstamp hports s.store.global g

/-- Settles O32: the record passes the SIU, the Conditioner, the link monitor with the trackers, and the
Learn Engine, each of which changes its own part. -/
theorem globalCommit : Obligations.GlobalCommit :=
  ⟨globalCommitAtTheFrontEnd, globalCommitInActive, globalCommitAtTheLearn⟩

end Sys2Proof.Machine
end

section
/-!
SUPPORT. What a conversion set makes of the SIU: the samples of its inputs, and the episodes and reports
that are taken with the set or finished before it (R3 to R7, R12, R13).
-/

namespace Sys2Proof.Machine

theorem exec_conversionSet (src : SampleSource) (pins : SetInputs) (order : SetOrder) (s : State) :
    exec (.conversionSet src pins order) s =
      if s.siu.choice.takes src then .next (s.conversionSet pins order) else .next s := rfl

/-- A set comes from the source in force (R9, R10, R11). -/
theorem ClockChoice.takes_iff (c : ClockChoice) (src : SampleSource) :
    c.takes src = true ↔ (src = .internalTick ↔ c = .internal) := by
  cases c <;> cases src <;> decide

/-! ### Episodes and reports that are taken -/

/-- An input once its due episode has begun (R5). -/
def SenseInput.begun (u : SenseInput) : SenseInput :=
  if u.beginDue then { u with episode := true, stuck := u.stuck + 1 } else u

/-- An input once its due stuck-long report is made (R6). -/
def SenseInput.reported (u : SenseInput) : SenseInput :=
  if u.longDue then { u with longReported := true } else u

/-- An input once both its events are taken. -/
def SenseInput.finished (u : SenseInput) : SenseInput := u.begun.reported

/-- The SIU once the events of all its inputs are taken. -/
def Siu.finished (u : Siu) : Siu := { u with inputs := Eight.of fun i => (u.inputs.get i).finished }

/-- Taking its events changes episode, report and STUCK of an input, and nothing else (R5, R6). -/
theorem SenseInput.finished_eq (u : SenseInput) : u.finished = { u with
    episode := u.episode || u.beginDue, stuck := if u.beginDue then u.stuck + 1 else u.stuck,
    longReported := u.longReported || u.longDue } := by
  have hlong : u.begun.longDue = u.longDue := by
    unfold SenseInput.begun
    split <;> rfl
  rw [SenseInput.finished, SenseInput.reported, hlong]
  cases hl : u.longDue <;> cases hb : u.beginDue <;> simp [SenseInput.begun, hb]

theorem SenseInput.longReported_or_due (u : SenseInput) :
    (u.longReported || u.longDue) = (u.longReported || (true && decide (4096 ≤ u.rail.length))) := by
  cases h : u.longReported with
  | true => rfl
  | false =>
    rw [SenseInput.longDue, h, Bool.not_false, Bool.and_true]
    rfl

/-! What the two events leave of an input. -/

@[simp] theorem SenseInput.finished_raw (u : SenseInput) : u.finished.raw = u.raw := by
  rw [SenseInput.finished_eq]
@[simp] theorem SenseInput.finished_clipRun (u : SenseInput) : u.finished.clipRun = u.clipRun := by
  rw [SenseInput.finished_eq]
@[simp] theorem SenseInput.finished_clip (u : SenseInput) : u.finished.clip = u.clip := by
  rw [SenseInput.finished_eq]
@[simp] theorem SenseInput.finished_rail (u : SenseInput) : u.finished.rail = u.rail := by
  rw [SenseInput.finished_eq]

theorem SenseInput.finished_of_not_due {u : SenseInput} (hb : u.beginDue = false)
    (hl : u.longDue = false) : u.finished = u := by
  rw [SenseInput.finished_eq, hb, hl]
  simp

theorem State.takeEpisode_siu (s : State) (i : Sin) : (s.takeEpisode i).siu =
    { s.siu with inputs := s.siu.inputs.set i (s.siu.inputs.get i).begun } := by
  by_cases h : (s.siu.inputs.get i).beginDue = true
  · rw [State.takeEpisode, if_pos h, SenseInput.begun, if_pos h]
    rfl
  · rw [State.takeEpisode, if_neg h, SenseInput.begun, if_neg h, Eight.set_of_get rfl]

theorem State.takeStuckLong_siu (s : State) (i : Sin) : (s.takeStuckLong i).siu =
    { s.siu with inputs := s.siu.inputs.set i (s.siu.inputs.get i).reported } := by
  by_cases h : (s.siu.inputs.get i).longDue = true
  · rw [State.takeStuckLong_of_due h, SenseInput.reported, if_pos h]
    split
    · rw [((s.reportLong i).dropChannel_keeps i).1]
      rfl
    · rfl
  · rw [State.takeStuckLong, if_neg h, SenseInput.reported, if_neg h, Eight.set_of_get rfl]

theorem State.finishInput_siu (s : State) (i : Sin) : (s.finishInput i).siu =
    { s.siu with inputs := s.siu.inputs.set i (s.siu.inputs.get i).finished } := by
  rw [State.finishInput, State.takeStuckLong_siu, State.takeEpisode_siu, Eight.get_set_same]
  cases i <;> rfl

theorem State.finishInputs_siu (s : State) : s.finishInputs.siu = s.siu.finished := by
  simp only [State.finishInputs, Sin.all, List.foldl, State.finishInput_siu]
  rfl

/-! ### The clock and the inputs behind the end of a set -/

/-- An aux event changes the aux units alone. -/
theorem State.updAux_siu (s : State) (x : AuxNo) (f : AuxUnit → AuxUnit) : (s.updAux x f).siu =
    { s.siu with aux6 := (s.updAux x f).siu.aux6, aux7 := (s.updAux x f).siu.aux7 } := by
  cases x <;> rfl

theorem State.takeAux_siu (s : State) (x : AuxNo) : (s.takeAux x).siu =
    { s.siu with aux6 := (s.takeAux x).siu.aux6, aux7 := (s.takeAux x).siu.aux7 } := by
  by_cases h : s.auxDue x = true
  · simp only [State.takeAux, if_pos h]
    split
    · exact s.updAux_siu x _
    · exact s.updAux_siu x _
  · rw [State.takeAux, if_neg h]

theorem State.takeDigital_siu (s : State) (x : AuxNo) : (s.takeDigital x).siu =
    { s.siu with aux6 := (s.takeDigital x).siu.aux6, aux7 := (s.takeDigital x).siu.aux7 } := by
  by_cases h : s.digitalDue x = true
  · simp only [State.takeDigital, if_pos h]
    exact s.updAux_siu x _
  · rw [State.takeDigital, if_neg h]

theorem State.finishAux_siu (s : State) (x : AuxNo) : (s.finishAux x).siu =
    { s.siu with aux6 := (s.finishAux x).siu.aux6, aux7 := (s.finishAux x).siu.aux7 } := by
  have h := (s.takeAux x).takeDigital_siu x
  rw [s.takeAux_siu x] at h
  exact h

/-- The end of a set's handling leaves the clock alone and takes the events of every input. -/
theorem State.finishSet_siu (s : State) : s.finishSet.siu =
    { s.siu.finished with aux6 := s.finishSet.siu.aux6, aux7 := s.finishSet.siu.aux7 } := by
  have h6 := s.finishTrackers.finishInputs.finishAux_siu .sin6
  have h7 := (s.finishTrackers.finishInputs.finishAux .sin6).finishAux_siu .sin7
  have hset : s.finishSet.siu = ((s.finishTrackers.finishInputs.finishAux .sin6).finishAux .sin7).siu := by
    simp [State.finishSet, State.finishEvents]
  rw [hset, h7, h6, State.finishInputs_siu]
  simp

theorem State.finishSet_phase (s : State) : s.finishSet.phase = s.phase + s.phase % 2 := by
  simp [State.finishSet, State.endHandling]

/-- An input behind the end of a set has its events taken. -/
theorem State.finishSet_input (s : State) (i : Sin) :
    s.finishSet.siu.inputs.get i = (s.siu.inputs.get i).finished := by
  rw [State.finishSet_siu]
  exact Eight.get_of _ i

/-! ### The set itself -/

/-- The part as the handling of a set meets it: what is left of the last one taken, the next stamp. -/
def State.met (s : State) : State := ((s.finishSet.takeIdle .a).takeIdle .b).beginHandling

theorem State.conversionSet_eq (s : State) (pins : SetInputs) (order : SetOrder) :
    s.conversionSet pins order = s.met.handleSet pins order := rfl

theorem State.met_siu (s : State) : s.met.siu = { s.finishSet.siu with
    stamp := s.finishSet.siu.stamp + 1, fed := s.finishSet.siu.choice != .internal } := by
  simp [State.met, State.beginHandling]

theorem State.met_store (s : State) : s.met.store = s.store := by
  simp [State.met]

/-- The link monitor's changes, where they come at the set, take the inputs' events with it (R94). -/
theorem State.monitorChanges_siu (s : State) (windowFirst : Bool) :
    (s.monitorChanges windowFirst).siu = s.siu.finished := by
  cases windowFirst <;> simp [State.monitorChanges, State.finishInputs_siu]

/-- What the Conditioner hands the trackers at a set (R35). -/
def State.setValues (s : State) (pins : SetInputs) : Six (Option Int) :=
  (s.siuSample pins).stringValues ((s.siuSample pins).dcSamples (s.inputSamples pins))

/-- A set up to the trackers: SIU, Conditioner, window, taps, and a capture end that comes first. -/
def State.setTapped (s : State) (pins : SetInputs) (order : SetOrder) : State :=
  let d := (s.siuSample pins).dcSamples (s.inputSamples pins)
  let t := (((s.siuSample pins).conditionSample (s.inputSamples pins) (s.setValues pins)).measureWindow
    d).tapSample d
  if order.captureFirst then t.captureEnd else t

/-- A set up to the trackers that sample before the link monitor's changes (R77, R94). -/
def State.setSampled (s : State) (pins : SetInputs) (order : SetOrder) : State :=
  (s.setTapped pins order).sampleTrackers (fun n => !takesFirst order n) (s.setValues pins)

theorem State.handleSet_eq (s : State) (pins : SetInputs) (order : SetOrder) :
    s.handleSet pins order =
      (if order.monitorFirst = 0 then s.setSampled pins order
        else ((s.setSampled pins order).monitorChanges order.windowFirst).sampleTrackers
          (takesFirst order) (s.setValues pins)).countIdles := rfl

theorem State.setTapped_siu (s : State) (pins : SetInputs) (order : SetOrder) :
    (s.setTapped pins order).siu = (s.siuSample pins).siu := by
  unfold State.setTapped
  dsimp only
  split <;> simp

theorem State.handleSet_siu (s : State) (pins : SetInputs) (order : SetOrder) :
    (s.handleSet pins order).siu =
      if order.monitorFirst = 0 then (s.siuSample pins).siu else (s.siuSample pins).siu.finished := by
  rw [State.handleSet_eq]
  split <;> simp [State.setSampled, State.setTapped_siu, State.monitorChanges_siu]

theorem State.siuSample_inputs (s : State) (pins : SetInputs) (i : Sin) :
    (s.siuSample pins).siu.inputs.get i =
      if s.store.global.analog i then (s.siu.inputs.get i).sample (pins.raw.get i)
        (inputSample (s.store.global.gains.get i) (pins.raw.get i))
      else s.siu.inputs.get i := by
  simp [State.siuSample]

theorem State.siuSample_siu (s : State) (pins : SetInputs) : (s.siuSample pins).siu =
    { s.siu with inputs := (s.siuSample pins).siu.inputs, aux6 := (s.siuSample pins).siu.aux6,
                 aux7 := (s.siuSample pins).siu.aux7 } := rfl

/-- The level read at the pin of an aux input. -/
def auxLevel (pins : SetInputs) : AuxNo → Bool
  | .sin6 => pins.high6
  | .sin7 => pins.high7

theorem State.siuSample_aux (s : State) (pins : SetInputs) (x : AuxNo) :
    (s.siuSample pins).siu.aux x =
      (s.siu.aux x).sample (s.store.global.role x.sin) (auxLevel pins x) := by
  cases x <;> rfl

theorem Siu.finished_aux (u : Siu) (x : AuxNo) : u.finished.aux x = u.aux x := by
  cases x <;> rfl

/-- One input over a conversion set, from the set before it finished. -/
theorem State.conversionSet_input (s : State) (pins : SetInputs) (order : SetOrder) (i : Sin) :
    (s.conversionSet pins order).siu.inputs.get i =
      let u := (s.siu.inputs.get i).finished
      let v := if s.store.global.analog i then u.sample (pins.raw.get i)
          (inputSample (s.store.global.gains.get i) (pins.raw.get i)) else u
      if order.monitorFirst = 0 then v else v.finished := by
  have hin : s.met.siu.inputs.get i = (s.siu.inputs.get i).finished := by
    simp only [State.met_siu, State.finishSet_input]
  rw [State.conversionSet_eq, State.handleSet_siu]
  split
  · rw [State.siuSample_inputs, State.met_store, hin]
  · rw [Siu.finished, Eight.get_of, State.siuSample_inputs, State.met_store, hin]

/-- A set adds 1 to the stamp and feeds the watch or not; the rest of the clock stays (R7, R10). -/
theorem State.conversionSet_siu (s : State) (pins : SetInputs) (order : SetOrder) :
    (s.conversionSet pins order).siu = { s.siu with
      stamp := s.siu.stamp + 1, fed := s.siu.choice != .internal,
      inputs := (s.conversionSet pins order).siu.inputs,
      aux6 := (s.conversionSet pins order).siu.aux6, aux7 := (s.conversionSet pins order).siu.aux7 } := by
  have hmet : s.met.siu = { s.siu with
      stamp := s.siu.stamp + 1, fed := s.siu.choice != .internal,
      inputs := s.met.siu.inputs, aux6 := s.met.siu.aux6, aux7 := s.met.siu.aux7 } := by
    rw [State.met_siu, State.finishSet_siu]
    simp only [Siu.finished]
  have hsample := s.met.siuSample_siu pins
  rw [hmet] at hsample
  rw [State.conversionSet_eq, State.handleSet_siu]
  split
  · exact hsample
  · rw [Siu.finished, hsample]

/-- The aux units over a conversion set that nothing is left before (R12, R13). -/
theorem State.conversionSet_aux {s : State} (h : s.settled = true) (pins : SetInputs)
    (order : SetOrder) (x : AuxNo) : (s.conversionSet pins order).siu.aux x =
      (s.siu.aux x).sample (s.store.global.role x.sin) (auxLevel pins x) := by
  have hmet : s.met.siu.aux x = s.siu.aux x := by
    rw [State.met_siu, State.finishSet_of_settled h]
    cases x <;> simp only [Siu.aux]
  have haux : (s.conversionSet pins order).siu.aux x = (s.met.siuSample pins).siu.aux x := by
    rw [State.conversionSet_eq, State.handleSet_siu]
    split
    · rfl
    · exact Siu.finished_aux _ x
  rw [haux, State.siuSample_aux, hmet, State.met_store]

end Sys2Proof.Machine
end

section
/-!
SUPPORT. What may be published in one phase (R132): each operation of a conversion set puts its
publications behind those that wait, in the phase in which it runs.
-/

namespace Sys2Proof.Machine

/-- What waits at each stream is kept, and what is put behind it carries the present phase, which stays. -/
def State.GrowsTo (s t : State) : Prop :=
  t.phase = s.phase ∧ ∀ p, ∃ made, (t.streams.get p).waiting = (s.streams.get p).waiting ++ made ∧
    ∀ w ∈ made, w.phase = s.phase

theorem State.GrowsTo.refl (s : State) : s.GrowsTo s := ⟨rfl, fun _ => ⟨[], by simp, by simp⟩⟩

theorem State.GrowsTo.trans {s t u : State} (h : s.GrowsTo t) (h' : t.GrowsTo u) : s.GrowsTo u := by
  refine ⟨h'.1.trans h.1, fun p => ?_⟩
  obtain ⟨a, ha, hpa⟩ := h.2 p
  obtain ⟨b, hb, hpb⟩ := h'.2 p
  refine ⟨a ++ b, by rw [hb, ha, List.append_assoc], fun w hw => ?_⟩
  rcases List.mem_append.mp hw with hw | hw
  · exact hpa w hw
  · exact (hpb w hw).trans h.1

/-- What changes neither phase nor streams publishes nothing. -/
theorem State.GrowsTo.of_eq {s t : State} (hp : t.phase = s.phase) (hs : t.streams = s.streams) :
    s.GrowsTo t :=
  ⟨hp, fun p => ⟨[], by rw [hs, List.append_nil], by simp⟩⟩

/-- What changes of the streams at most something else than what waits. -/
theorem State.GrowsTo.of_waiting {s t : State} (hp : t.phase = s.phase)
    (hs : ∀ p, (t.streams.get p).waiting = (s.streams.get p).waiting) : s.GrowsTo t :=
  ⟨hp, fun p => ⟨[], by rw [hs, List.append_nil], by simp⟩⟩

/-- A tracker's publications carry the present phase. -/
theorem State.GrowsTo.of_waitsAfter {s t : State} {n : StringNo} {made : List Publication}
    (hp : t.phase = s.phase) (hs : ∀ p, (t.streams.get p).waiting = s.waitsAfter p n made) :
    s.GrowsTo t := by
  refine ⟨hp, fun p => ⟨_, hs p, fun w hmem => ?_⟩⟩
  obtain ⟨u, -, rfl⟩ := List.mem_map.mp hmem
  rfl

theorem State.BoundaryOf.grows {s t : State} {n : StringNo} {k : Tracker} {made : List Publication}
    (h : s.BoundaryOf t n k made) : s.GrowsTo t := by
  obtain ⟨⟨-, -, -, hphase⟩, -, hw⟩ := h
  exact .of_waitsAfter hphase fun p => by rw [hw]

theorem State.publish_grows (s : State) (m : Maker) (u : Publication) : s.GrowsTo (s.publish m u) :=
  ⟨rfl, fun p => ⟨[⟨m, s.siu.stamp, s.phase, u⟩], by rw [s.publish_stream], by simp⟩⟩

theorem State.forStrings_grows {f : StringNo → State → State} (h : ∀ n t, State.GrowsTo t (f n t))
    (s : State) : s.GrowsTo (s.forStrings f) :=
  State.forStrings_inv (P := s.GrowsTo) (fun n _ ht => ht.trans (h n _)) (.refl s)

/-! ### The trackers -/

theorem State.updTracker_grows (s : State) (n : StringNo) (f : Tracker → Tracker) :
    s.GrowsTo (s.updTracker n f) := .of_eq rfl rfl

theorem State.publishTrack_grows (s : State) (n : StringNo) (k : TrackKind) :
    s.GrowsTo (s.publishTrack n k) := (s.publishTrack_boundary n k).grows

theorem State.enterSilent_grows (s : State) (n : StringNo) : s.GrowsTo (s.enterSilent n) :=
  (s.enterSilent_boundary n).grows

theorem State.enterMuted_grows (s : State) (n : StringNo) (c : EndCause) : s.GrowsTo (s.enterMuted n c) := by
  by_cases h : (s.trackers.get n).state = .muted
  · rw [State.enterMuted_of_muted c h]
    exact .refl s
  · exact (State.enterMuted_boundary c h).grows

theorem State.beginOnset_grows (s : State) (n : StringNo) (peak : Nat) :
    s.GrowsTo (s.beginOnset n peak) :=
  .of_waitsAfter (by simp) (s.beginOnset_spec n peak).2.2

theorem State.ghost_grows (s : State) (n : StringNo) : s.GrowsTo (s.ghost n) :=
  (s.updTracker_grows n _).trans (State.enterSilent_grows _ n)

theorem State.accept_grows (s : State) (n : StringNo) (v : Int) : s.GrowsTo (s.accept n v) := by
  unfold State.accept
  dsimp only
  repeat' split
  · exact .refl s
  · exact (s.updTracker_grows n _).trans (State.publishTrack_grows _ n _)
  · exact (s.updTracker_grows n _).trans (State.publishTrack_grows _ n _)

theorem State.acceptIf_grows (s : State) (n : StringNo) (v : Option Int) : s.GrowsTo (s.acceptIf n v) := by
  cases v with
  | none => exact .refl s
  | some v => exact s.accept_grows n v

theorem State.repick_grows (s : State) (n : StringNo) (k : Nat) : s.GrowsTo (s.repick n k) :=
  (s.publishTrack_grows n _).trans (State.beginOnset_grows _ n k)

theorem State.sampleOnset_grows (s : State) (n : StringNo) (kept : Option (Nat × Nat)) (v : Option Int) :
    s.GrowsTo (s.sampleOnset n kept v) := by
  unfold State.sampleOnset
  dsimp only
  generalize ht : s.updTracker n _ = t
  have hst : s.GrowsTo t := ht ▸ s.updTracker_grows n _
  cases v with
  | some pitch =>
    exact (hst.trans (t.updTracker_grows n _)).trans (State.publishTrack_grows _ n .start)
  | none =>
    dsimp only
    split
    · exact hst.trans (t.ghost_grows n)
    · exact hst

theorem State.sampleSounding_grows (s : State) (n : StringNo) (kept : Option (Nat × Nat))
    (v : Option Int) : s.GrowsTo (s.sampleSounding n kept v) := by
  unfold State.sampleSounding
  dsimp only
  split
  · exact s.repick_grows n _
  · exact ((s.acceptIf_grows n v).trans (State.updTracker_grows _ n _)).trans
      (State.updTracker_grows _ n _)

theorem State.sampleReleasing_grows (s : State) (n : StringNo) (kept : Option (Nat × Nat))
    (v : Option Int) : s.GrowsTo (s.sampleReleasing n kept v) := by
  unfold State.sampleReleasing
  dsimp only
  repeat' split
  · exact s.repick_grows n _
  · exact (s.acceptIf_grows n v).trans (State.updTracker_grows _ n _)
  · exact ((s.acceptIf_grows n v).trans (State.updTracker_grows _ n _)).trans
      (State.updTracker_grows _ n _)

theorem State.trackerSample_grows (s : State) (n : StringNo) (y : Int) :
    s.GrowsTo (s.trackerSample n y) := by
  unfold State.trackerSample
  dsimp only
  have hmeasured (t : Tracker) := s.updTracker_grows n fun _ => t
  split
  · exact hmeasured _
  split
  · exact hmeasured _
  · split
    · exact (hmeasured _).trans (State.beginOnset_grows _ n _)
    · exact hmeasured _
  · exact (hmeasured _).trans (State.sampleOnset_grows _ n _ _)
  · exact (hmeasured _).trans (State.sampleSounding_grows _ n _ _)
  · exact (hmeasured _).trans (State.sampleReleasing_grows _ n _ _)

theorem State.sampleTrackers_grows (s : State) (turn : StringNo → Bool) (v : Six (Option Int)) :
    s.GrowsTo (s.sampleTrackers turn v) :=
  State.forStrings_grows (fun n t => by
    split
    · exact t.trackerSample_grows n _
    · exact .refl t) s

/-! ### The events of a set -/

theorem State.finishTracker_grows (s : State) (n : StringNo) : s.GrowsTo (s.finishTracker n) := by
  have hstall (s : State) : s.GrowsTo (s.takeStall n) := by
    unfold State.takeStall
    split
    · exact s.updTracker_grows n _
    · exact .refl s
  have htimeout (s : State) : s.GrowsTo (s.takeTimeout n) := by
    unfold State.takeTimeout
    split
    · exact s.ghost_grows n
    · exact .refl s
  have hrelease (s : State) : s.GrowsTo (s.takeRelease n) := by
    unfold State.takeRelease
    split
    · exact (s.publishTrack_grows n _).trans (State.enterSilent_grows _ n)
    · exact .refl s
  have hlevel (s : State) : s.GrowsTo (s.takeLevel n) := by
    unfold State.takeLevel
    split
    · exact (s.publishTrack_grows n _).trans (State.updTracker_grows _ n _)
    · exact .refl s
  exact (((hstall s).trans (htimeout _)).trans (hrelease _)).trans (hlevel _)

theorem State.finishTrackers_grows (s : State) : s.GrowsTo s.finishTrackers :=
  State.forStrings_grows (fun n t => t.finishTracker_grows n) s

theorem State.raiseBoth_grows (s : State) (f : Flag) : s.GrowsTo (s.raiseBoth f) := .of_eq rfl rfl

theorem State.linkNotice_grows (s : State) (c : NoticeCode) (a b : Nat) :
    s.GrowsTo (s.linkNotice c a b) := s.publish_grows _ _

theorem State.dropChannel_grows (s : State) (i : Sin) : s.GrowsTo (s.dropChannel i) := by
  have hflag : s.GrowsTo (s.flagDropped i) := .of_eq rfl rfl
  cases hs : s.store.global.stringOf i with
  | none =>
    rw [State.dropChannel_of_none hs]
    exact (hflag.trans (State.linkNotice_grows _ _ _ _)).trans (State.raiseBoth_grows _ _)
  | some n =>
    have hmute : s.GrowsTo (s.muteDropped i n) :=
      ((hflag.trans (State.linkNotice_grows _ _ _ _)).trans (State.raiseBoth_grows _ _)).trans
        (State.enterMuted_grows _ n _)
    have hwidth : s.GrowsTo ((s.muteDropped i n).setWidth.noticeWidth s.link.width) := by
      refine (hmute.trans (.of_eq rfl rfl)).trans ?_
      unfold State.noticeWidth
      split
      · exact .refl _
      · exact State.linkNotice_grows _ _ _ _
    rw [State.dropChannel_of_some hs]
    exact hwidth.trans (.of_eq (by simp) (by simp))

theorem State.finishInput_grows (s : State) (i : Sin) : s.GrowsTo (s.finishInput i) := by
  have hepisode : s.GrowsTo (s.takeEpisode i) := .of_eq (by simp) (by simp)
  have hreport (t : State) : t.GrowsTo (t.reportLong i) := .of_eq rfl rfl
  have hlong (t : State) : t.GrowsTo (t.takeStuckLong i) := by
    by_cases h : (t.siu.inputs.get i).longDue = true
    · rw [State.takeStuckLong_of_due h]
      split
      · exact (hreport t).trans (State.dropChannel_grows _ i)
      · exact hreport t
    · rw [State.takeStuckLong_of_not_due (by simpa using h)]
      exact .refl t
  exact hepisode.trans (hlong _)

theorem State.finishInputs_grows (s : State) : s.GrowsTo s.finishInputs := by
  have h (l : List Sin) : ∀ t : State, s.GrowsTo t → s.GrowsTo (l.foldl (fun t i => t.finishInput i) t) := by
    induction l with
    | nil => exact fun t ht => ht
    | cons i l ih => exact fun t ht => ih _ (ht.trans (t.finishInput_grows i))
  exact h Sin.all s (.refl s)

theorem State.leaveActive_grows (s : State) : s.GrowsTo s.leaveActive := by
  have htrackers := State.forStrings_grows (fun n t => t.enterMuted_grows n .link) s
  have hlink (t : State) (k : Link) : t.GrowsTo (State.learnLinkLost { t with link := k }) :=
    .of_eq (by simp) (by simp)
  exact htrackers.trans (hlink _ _)

theorem State.enterLink_grows (s : State) (st : LinkState) : s.GrowsTo (s.enterLink st) := by
  unfold State.enterLink
  dsimp only
  have henter (t : State) : t.GrowsTo (State.raiseBoth { t with link := t.link.enter st } .link) :=
    .of_eq rfl rfl
  split
  · exact s.leaveActive_grows.trans (henter _)
  · exact henter s

theorem State.releaseUsable_grows (s : State) : s.GrowsTo s.releaseUsable :=
  State.forStrings_grows (fun n t => by
    unfold State.leaveMuted
    split
    · split
      · exact t.enterSilent_grows n
      · exact .refl t
    · exact .refl t) s

theorem State.takeWindowEnd_grows (s : State) : s.GrowsTo s.takeWindowEnd := by
  have hfloors : s.GrowsTo s.setFloors := .of_eq rfl rfl
  have hwidth (t : State) : t.GrowsTo t.setWidth.markWindowEnd := .of_eq rfl rfl
  unfold State.takeWindowEnd
  dsimp only
  split
  · exact ((((hfloors.trans (State.enterLink_grows _ _)).trans (State.releaseUsable_grows _)).trans
      (hwidth _)).trans (State.linkNotice_grows _ _ _ _)).trans (State.linkNotice_grows _ _ _ _)
  · exact .refl s

theorem State.monitorChanges_grows (s : State) (windowFirst : Bool) :
    s.GrowsTo (s.monitorChanges windowFirst) := by
  unfold State.monitorChanges
  split
  · exact (s.finishTrackers_grows.trans (State.takeWindowEnd_grows _)).trans (State.finishInputs_grows _)
  · exact (s.finishTrackers_grows.trans (State.finishInputs_grows _)).trans (State.takeWindowEnd_grows _)

/-! ### The set -/

theorem State.setTapped_grows (s : State) (pins : SetInputs) (order : SetOrder) :
    s.GrowsTo (s.setTapped pins order) := by
  unfold State.setTapped
  dsimp only
  split <;> exact .of_eq (by simp) (by simp)

theorem State.countIdles_grows (s : State) : s.GrowsTo s.countIdles :=
  .of_waiting (by simp) fun p => by cases p <;> rfl

/-- What the handling of a set publishes carries its phase and waits behind what waited (R132). -/
theorem State.handleSet_grows (s : State) (pins : SetInputs) (order : SetOrder) :
    s.GrowsTo (s.handleSet pins order) := by
  have hsampled : s.GrowsTo (s.setSampled pins order) :=
    (s.setTapped_grows pins order).trans (State.sampleTrackers_grows _ _ _)
  rw [State.handleSet_eq]
  split
  · exact hsampled.trans (State.countIdles_grows _)
  · exact ((hsampled.trans (State.monitorChanges_grows _ _)).trans
      (State.sampleTrackers_grows _ _ _)).trans (State.countIdles_grows _)

theorem State.closeOpen_waiting (s : State) (p q : Port) (c : CloseCause) :
    ((s.closeOpen p c).streams.get q).waiting = (s.streams.get q).waiting := by
  unfold State.closeOpen
  dsimp only
  split
  · rfl
  · rw [State.raise_streams, State.updStream_get]
    split <;> rfl

/-- An idle timer closes a packet and leaves what waits (R159). -/
theorem State.takeIdle_waiting (s : State) (p q : Port) :
    ((s.takeIdle p).streams.get q).waiting = (s.streams.get q).waiting := by
  unfold State.takeIdle
  split
  · exact s.closeOpen_waiting p q .idle
  · rfl

end Sys2Proof.Machine
end

section
/-!
PROOF. A conversion set at the Sense Input Unit (R3 to R7, R9 to R13), with the phase of what it
publishes (R132).
-/

namespace Sys2Proof.Machine

/-- A set from the source in force is handled, one from the other changes nothing. -/
theorem exec_conversionSet_of_source {src : SampleSource} (pins : SetInputs) (order : SetOrder)
    {s : State} (h : src = .internalTick ↔ s.siu.choice = .internal) :
    exec (.conversionSet src pins order) s = .next (s.conversionSet pins order) := by
  rw [exec_conversionSet, if_pos ((ClockChoice.takes_iff _ _).mpr h)]

theorem State.conversionSet_of_exec {src : SampleSource} {pins : SetInputs} {order : SetOrder}
    {s t : State} (h : src = .internalTick ↔ s.siu.choice = .internal)
    (ht : exec (.conversionSet src pins order) s = .next t) : t = s.conversionSet pins order := by
  rw [exec_conversionSet_of_source pins order h] at ht
  cases ht
  rfl

/-! ### Stamp, clock and phase -/

/-- The gap before a set has an even phase, its handling the next one (R132). -/
theorem State.conversionSet_phase {s : State} (h : s.settled = true) (pins : SetInputs)
    (order : SetOrder) : (s.conversionSet pins order).phase = s.phase + 1 := by
  simp [State.conversionSet_eq, State.met, State.finishSet_of_settled h, State.beginHandling]

theorem State.met_waiting {s : State} (h : s.settled = true) (p : Port) :
    (s.met.streams.get p).waiting = (s.streams.get p).waiting := by
  simp [State.met, State.finishSet_of_settled h, State.takeIdle_waiting]

theorem conversionSetAdvancesTheStamp : Claims.ConversionSetAdvancesTheStamp := by
  intro src pins order s
  split
  · next hsrc =>
    have hsiu := s.conversionSet_siu pins order
    refine ⟨_, exec_conversionSet_of_source pins order hsrc, ?_, ?_⟩
    · rw [hsiu]
      exact BitVec.toNat_add _ _
    refine ⟨by rw [hsiu], by rw [hsiu], by rw [hsiu], by rw [hsiu], by rw [hsiu], ?_, by simp, by simp,
      fun hset => ?_⟩
    · rw [hsiu]
      cases s.siu.choice <;> rfl
    have hphase := State.conversionSet_phase hset pins order
    have heven := (s.settled_iff.mp hset).1
    refine ⟨hphase, by omega, ?_, fun p => ?_⟩
    · rw [State.finishSet_phase]
      omega
    · obtain ⟨made, hmade, hphases⟩ := (s.met.handleSet_grows pins order).2 p
      refine ⟨made, by rw [← State.met_waiting hset]; exact hmade, fun w hw => ?_⟩
      rw [hphases w hw]
      simp [State.conversionSet_eq]
  · next hsrc =>
    rw [exec_conversionSet, if_neg (mt (ClockChoice.takes_iff _ _).mp hsrc)]

/-! ### Clips, rails and episodes -/

/-- The rail run by its table: on at the same rail, restarted at the other, 0 between them (R5). -/
theorem RailRun.after_of_rail (u : RailRun) {r : Int} (h : 32000 ≤ r ∨ r ≤ -32000) :
    u.after r = ⟨decide (32000 ≤ r), if u.positive = decide (32000 ≤ r) ∧ 1 ≤ u.length
      then min 4096 (u.length + 1) else 1⟩ := by
  by_cases hp : 32000 ≤ r
  · by_cases hu : u.positive = true ∧ 1 ≤ u.length <;>
      simp [RailRun.after, Config.railCode, Config.longLength, hp, hu]
  · have hn : r ≤ -32000 := h.resolve_left hp
    by_cases hu : u.positive = false ∧ 1 ≤ u.length <;>
      simp [RailRun.after, Config.railCode, Config.longLength, hp, hn, hu]

theorem RailRun.after_of_no_rail (u : RailRun) {r : Int} (h : ¬ (32000 ≤ r ∨ r ≤ -32000)) :
    u.after r = ⟨u.positive, 0⟩ := by
  obtain ⟨hp, hn⟩ := not_or.mp h
  simp [RailRun.after, Config.railCode, hp, hn]

theorem inputSample_eq (gain : Nat) (r : Half) :
    inputSample gain r = max (-32768) (min 32767 (r.toInt * 2 ^ gain)) := rfl

theorem clipped_iff (x : Int) : clipped x = true ↔ x = -32768 ∨ x = 32767 := by
  simp [clipped]

/-- What a set makes of an input's raw code, clips and rail run (R3, R4, R5). -/
theorem State.conversionSet_meters (s : State) (pins : SetInputs) (order : SetOrder) {i : Sin}
    (h : s.store.global.analog i = true) :
    let u := s.siu.inputs.get i
    let v := (s.conversionSet pins order).siu.inputs.get i
    let x := inputSample (s.store.global.gains.get i) (pins.raw.get i)
    v.raw = pins.raw.get i ∧ v.clipRun = clipped x ∧
      v.clip = (if clipped x && !u.clipRun then u.clip + 1 else u.clip) ∧
      v.rail = u.rail.after (pins.raw.get i).toInt := by
  simp only [s.conversionSet_input pins order i, h]
  split <;> simp [SenseInput.sample]

theorem conversionSetCountsClipsAndRails : Claims.ConversionSetCountsClipsAndRails := by
  intro src pins order s t i hsrc ht
  rw [State.conversionSet_of_exec hsrc ht]
  intro u v r x
  split
  · next hi =>
    obtain ⟨hraw, hrun, hclip, hrail⟩ :=
      s.conversionSet_meters pins order ((Global.analog_iff _ _).mpr hi)
    replace hrail : v.rail = u.rail.after r := hrail
    have hx : clipped x = true ↔ x = -32768 ∨ x = 32767 := clipped_iff x
    refine ⟨hraw, hrun.trans ?_, hclip.trans ?_, ?_⟩
    · rw [Bool.eq_iff_iff, decide_eq_true_eq]
      exact hx
    · simp only [Bool.and_eq_true, Bool.not_eq_true']
      exact if_congr (and_congr hx Iff.rfl) rfl rfl
    · split
      · next hr =>
        rw [hrail, RailRun.after_of_rail _ hr]
        exact ⟨rfl, rfl⟩
      · next hr =>
        rw [hrail, RailRun.after_of_no_rail _ hr]
  · next hi =>
    have hd := (s.store.global.analog_eq_false_iff i).mpr hi
    simp only [v, s.conversionSet_input pins order i, hd]
    split <;> simp [u]

/-- With nothing left of the last set, one input over a conversion set. -/
theorem State.conversionSet_input_of_settled {s : State} (h : s.settled = true) (pins : SetInputs)
    (order : SetOrder) (i : Sin) : (s.conversionSet pins order).siu.inputs.get i =
      let u := s.siu.inputs.get i
      let v := if s.store.global.analog i then u.sample (pins.raw.get i)
          (inputSample (s.store.global.gains.get i) (pins.raw.get i)) else u
      if order.monitorFirst = 0 then v else v.finished := by
  obtain ⟨-, -, hin, -⟩ := s.settled_iff.mp h
  rw [State.conversionSet_input, SenseInput.finished_of_not_due (hin i).1 (hin i).2]

theorem conversionSetEndsEpisodes : Claims.ConversionSetEndsEpisodes := by
  intro src pins order s t i hsrc hset ht
  rw [State.conversionSet_of_exec hsrc ht, State.conversionSet_input_of_settled hset]
  intro u v
  split
  · next hi =>
    have ha : s.store.global.analog i = true := (Global.analog_iff _ _).mpr hi
    let w := u.sample (pins.raw.get i) (inputSample (s.store.global.gains.get i) (pins.raw.get i))
    intro goesOn taken begins
    by_cases hm : order.monitorFirst = 0
    · have hv : v = w := by simp only [v, ha, hm, if_true, w, u]
      have htaken : taken = false := decide_eq_false (not_not.mpr hm)
      simp only [begins, htaken, goesOn, hv, Bool.false_and, Bool.or_false]
      exact ⟨rfl, rfl, rfl⟩
    · have hv : v = w.finished := by simp only [v, ha, hm, if_true, if_false, w, u]
      have htaken : taken = true := decide_eq_true hm
      have hgoes : goesOn = decide (1 < w.rail.length) := by simp only [goesOn, hv, SenseInput.finished_rail]
      have hbegins : begins = w.beginDue := by
        simp only [begins, htaken, hv, SenseInput.finished_rail, Bool.true_and, hgoes]
        rfl
      rw [hbegins, htaken, hgoes, hv, SenseInput.finished_rail, SenseInput.finished_eq]
      exact ⟨rfl, rfl, SenseInput.longReported_or_due w⟩
  · next hi =>
    have hd := (s.store.global.analog_eq_false_iff i).mpr hi
    obtain ⟨-, -, hin, -⟩ := s.settled_iff.mp hset
    simp only [v, hd]
    split
    · exact ⟨rfl, rfl, rfl⟩
    · simp [SenseInput.finished_of_not_due (hin i).1 (hin i).2, u]

/-- The role of an input that can be auxiliary (R2). -/
theorem Global.role_aux (g : Global) (x : AuxNo) : g.role x.sin =
    if g.analog x.sin && StringNo.all.any fun n => g.map.get n == some x.sin then .stringInput
    else if g.analog x.sin then .analogAux else .digitalAux := by
  have haux : canBeAux x.sin = true := by cases x <;> rfl
  have hmapped : (g.stringOf x.sin).isSome = StringNo.all.any fun n => g.map.get n == some x.sin :=
    List.isSome_find?
  rw [Global.role, hmapped, haux]
  cases g.analog x.sin <;> simp

theorem conversionSetCountsAuxInputs : Claims.ConversionSetCountsAuxInputs := by
  intro src pins order s t x hsrc hset ht u high analog mapped
  have hlevel : high = auxLevel pins x := by cases x <;> rfl
  rw [State.conversionSet_of_exec hsrc ht, State.conversionSet_aux hset, Global.role_aux, hlevel]
  have ha : s.store.global.analog x.sin = analog := rfl
  simp only [ha]
  split
  · rfl
  · split
    · rfl
    · rfl

/-- Settles O8: what a set does to each input and aux unit, to the clock, and to what waits. -/
theorem conversionSetAtTheInputs : Obligations.ConversionSetAtTheInputs :=
  ⟨conversionSetAdvancesTheStamp, conversionSetCountsClipsAndRails, conversionSetEndsEpisodes,
    conversionSetCountsAuxInputs⟩

end Sys2Proof.Machine
end

section
/-!
SUPPORT. Every row answers a next state and leaves the queue as it was: owner by owner what a command
does to the queue, then row by row.
-/

namespace Sys2Proof.Machine

/-- The row answers a next state with the queue as it was. -/
def State.AnswersNext (s : State) (r : Result) : Prop := ∃ t, r = .next t ∧ t.pending = s.pending

theorem State.answersNext_of_eq {s t : State} (h : t.pending = s.pending) : s.AnswersNext (.next t) :=
  ⟨t, rfl, h⟩

/-- A frame whose owner leaves the queue alone. -/
theorem State.answersNext_frame {owner : State → State × Response}
    (h : ∀ t, (owner t).1.pending = t.pending) (s : State) (p : Port) (n : Nat) :
    s.AnswersNext (.next (s.frame p n owner)) :=
  State.answersNext_of_eq (State.frame_keeps State.pending (by simp) (by simp) h)

/-- A frame that is answered from what the part holds. -/
theorem State.answersNext_read (r : State → Response) (s : State) (p : Port) (n : Nat) :
    s.AnswersNext (.next (s.frame p n fun t => (t, r t))) :=
  State.answersNext_frame (fun _ => rfl) s p n

/-- A row that acts where its event is due and changes nothing elsewhere. -/
theorem State.answersNext_if {s t : State} (c : Prop) [Decidable c] (h : t.pending = s.pending) :
    s.AnswersNext (if c then .next t else .next s) := by
  split
  · exact State.answersNext_of_eq h
  · exact State.answersNext_of_eq rfl

theorem State.ownAnswer_pending (s : State) (p : Port) (n : Nat) (st : Status) :
    (s.ownAnswer p n st).pending = s.pending := by
  unfold State.ownAnswer
  dsimp only
  split <;> rfl

/-! ### The owners of the commands -/

@[simp] theorem linkOk_fst (s : State) : (linkOk s).1 = s := rfl
@[simp] theorem linkRefusal_fst (s : State) : (linkRefusal s).1 = s := rfl
@[simp] theorem streamOk_fst (s : State) (p : Port) : (streamOk s p).1 = s := rfl
@[simp] theorem streamRefusal_fst (s : State) (p : Port) : (streamRefusal s p).1 = s := rfl

theorem State.doSetClock_pending (s : State) (c : Byte) : (s.doSetClock c).1.pending = s.pending := by
  unfold State.doSetClock
  split
  · rfl
  · split <;> simp

theorem State.doReadProfile_pending (s : State) (b n : Byte) :
    (s.doReadProfile b n).1.pending = s.pending := by
  unfold State.doReadProfile
  split <;> rfl

theorem State.doEditProfile_pending (s : State) (p : Port) (b n : Byte) (base : Half) (m : ProfileImage) :
    (s.doEditProfile p b n base m).1.pending = s.pending := by
  unfold State.doEditProfile
  split
  · dsimp only
    repeat' split
    all_goals simp
  · rfl

theorem State.doEditGlobal_pending (s : State) (p : Port) (base : Half) (m : GlobalImage) :
    (s.doEditGlobal p base m).1.pending = s.pending := by
  unfold State.doEditGlobal
  dsimp only
  repeat' split
  all_goals simp

theorem State.doSelectBank_pending (s : State) (m b : Byte) :
    (s.doSelectBank m b).1.pending = s.pending := by
  unfold State.doSelectBank
  split
  · rfl
  · split
    · rfl
    · exact State.forStrings_keeps State.pending s _ fun n t => by split <;> simp

theorem State.doRetrain_pending (s : State) : s.doRetrain.1.pending = s.pending := by
  unfold State.doRetrain
  split <;> simp

theorem State.doDisable_pending (s : State) : s.doDisable.1.pending = s.pending := by
  unfold State.doDisable
  split <;> simp

theorem State.doEnable_pending (s : State) : s.doEnable.1.pending = s.pending := by
  unfold State.doEnable
  split
  · split <;> simp
  · rfl

theorem State.doExpectRemoval_pending (s : State) : s.doExpectRemoval.1.pending = s.pending := by
  unfold State.doExpectRemoval
  split <;> rfl

theorem State.doLearnStart_pending (s : State) (p : Port) (n b : Byte) (base : Half) :
    (s.doLearnStart p n b base).1.pending = s.pending := by
  unfold State.doLearnStart
  repeat' split
  all_goals simp

theorem State.doLearnAbort_pending (s : State) (p : Port) : (s.doLearnAbort p).1.pending = s.pending := by
  unfold State.doLearnAbort
  split <;> simp

theorem State.doSetStream_pending (s : State) (p : Port) (m : SettingsImage) :
    (s.doSetStream p m).1.pending = s.pending := by
  unfold State.doSetStream
  dsimp only
  repeat' split
  all_goals simp

theorem State.doSetFilter_pending (s : State) (p : Port) (l : List FilterImage) :
    (s.doSetFilter p l).1.pending = s.pending := by
  unfold State.doSetFilter
  split
  · rfl
  · split <;> rfl

theorem State.doStart_pending (s : State) (p : Port) : (s.doStart p).1.pending = s.pending := by
  unfold State.doStart
  split <;> simp

theorem State.doStop_pending (s : State) (p : Port) : (s.doStop p).1.pending = s.pending := by
  simp [State.doStop]

theorem State.doHold_pending (s : State) (p : Port) : (s.doHold p).1.pending = s.pending := by
  unfold State.doHold
  split <;> simp

theorem State.doResume_pending (s : State) (p : Port) : (s.doResume p).1.pending = s.pending := by
  unfold State.doResume
  split <;> simp

theorem State.doResync_pending (s : State) (p : Port) : (s.doResync p).1.pending = s.pending := by
  unfold State.doResync
  split <;> simp

theorem State.doFetch_pending (s : State) (p : Port) : (s.doFetch p).1.pending = s.pending := by
  unfold State.doFetch
  split <;> rfl

theorem State.doRelease_pending (s : State) (p : Port) (q : Byte) :
    (s.doRelease p q).1.pending = s.pending := by
  unfold State.doRelease
  split
  · rfl
  · split <;> simp

theorem State.doReadLatch_pending (s : State) (p : Port) : (s.doReadLatch p).1.pending = s.pending := by
  unfold State.doReadLatch
  split <;> rfl

theorem State.doPostCue_pending (s : State) (p : Port) (d : Byte) (c : Half) :
    (s.doPostCue p d c).1.pending = s.pending := by
  unfold State.doPostCue
  split <;> simp

/-! ### The rows -/

theorem execPartReset_answersNext (s : State) (p : Port) : s.AnswersNext (execPartReset p s) := by
  unfold execPartReset
  dsimp only
  split
  · split <;> exact State.answersNext_of_eq rfl
  · exact State.answersNext_of_eq rfl

theorem execUnknownCommand_answersNext (s : State) (p : Port) (code : Byte) (args : List Byte) :
    s.AnswersNext (execUnknownCommand p code args s) := by
  unfold execUnknownCommand
  split
  · exact State.answersNext_read (fun _ => refuse .invalid) s p _
  · exact State.answersNext_of_eq (s.ownAnswer_pending p _ _)

/-- No row is refused, stops the part or touches the queue. -/
theorem exec_answersNext (c : Instr) (s : State) : s.AnswersNext (exec c s) := by
  cases c with
  | powerOn => exact State.answersNext_of_eq rfl
  | partReset p => exact execPartReset_answersNext s p
  | conversionSet src pins order => exact State.answersNext_if _ (by simp)
  | stuckEpisodeBegin i => exact State.answersNext_of_eq (by simp)
  | stuckLong i => exact State.answersNext_if _ (by simp)
  | auxEvaluation x => exact State.answersNext_if _ (by cases x <;> simp [State.auxBefore])
  | digitalAuxPublish x => exact State.answersNext_if _ (by cases x <;> simp [State.auxBefore])
  | settleWindowEnd => exact State.answersNext_if _ (by simp)
  | stall n => exact State.answersNext_of_eq (by simp)
  | onsetTimeout n => exact State.answersNext_of_eq (by simp)
  | releaseTimerEnd n => exact State.answersNext_of_eq (by simp)
  | levelTimer n => exact State.answersNext_of_eq (by simp)
  | wordClockLoss => exact State.answersNext_of_eq (by simp)
  | presChange level => exact State.answersNext_of_eq (by simp)
  | presenceBecomesTrue => exact State.answersNext_of_eq (by simp)
  | presenceBecomesFalse => exact State.answersNext_of_eq (by simp)
  | powerUpDelayEnd => exact State.answersNext_of_eq (by simp)
  | overCurrent => exact State.answersNext_of_eq (by simp)
  | armTimerExpiry => exact State.answersNext_of_eq (by simp)
  | captureEnd => exact State.answersNext_of_eq (by simp)
  | learnCommit => exact State.answersNext_of_eq (by simp)
  | publicationTaken p m => exact State.answersNext_of_eq (by simp)
  | idleTimerExpiry p => exact State.answersNext_of_eq (by simp)
  | csFall p => exact State.answersNext_of_eq rfl
  | csRise p => exact State.answersNext_of_eq rfl
  | responseReady p => exact State.answersNext_of_eq rfl
  | unknownCommand p code args => exact execUnknownCommand_answersNext s p code args
  | malformedFrame p code args => exact State.answersNext_of_eq (s.ownAnswer_pending p _ _)
  | busyFrame p code args => exact State.answersNext_if _ (s.ownAnswer_pending p _ _)
  | identify p => exact State.answersNext_read _ s p _
  | setClock p choice => exact State.answersNext_frame (fun t => t.doSetClock_pending _) s p _
  | readStatus p => exact State.answersNext_read _ s p _
  | clearFlags p word => exact State.answersNext_frame (fun _ => rfl) s p _
  | setAttnMask p word => exact State.answersNext_frame (fun _ => rfl) s p _
  | readContext p n => exact State.answersNext_read _ s p _
  | readCounters p selector n => exact State.answersNext_read _ s p _
  | readFloors p => exact State.answersNext_read _ s p _
  | readProfile p b n => exact State.answersNext_frame (fun t => t.doReadProfile_pending _ _) s p _
  | editProfile p b n base m =>
    exact State.answersNext_frame (fun t => t.doEditProfile_pending _ _ _ _ _) s p _
  | readGlobal p => exact State.answersNext_frame (fun _ => rfl) s p _
  | editGlobal p base m => exact State.answersNext_frame (fun t => t.doEditGlobal_pending _ _ _) s p _
  | selectBank p m b => exact State.answersNext_frame (fun t => t.doSelectBank_pending _ _) s p _
  | retrain p => exact State.answersNext_frame State.doRetrain_pending s p _
  | disable p => exact State.answersNext_frame State.doDisable_pending s p _
  | enable p => exact State.answersNext_frame State.doEnable_pending s p _
  | expectRemoval p => exact State.answersNext_frame State.doExpectRemoval_pending s p _
  | learnStart p n b base => exact State.answersNext_frame (fun t => t.doLearnStart_pending _ _ _ _) s p _
  | learnAbort p => exact State.answersNext_frame (fun t => t.doLearnAbort_pending _) s p _
  | learnStatus p => exact State.answersNext_read _ s p _
  | setStream p m => exact State.answersNext_frame (fun t => t.doSetStream_pending _ _) s p _
  | readStream p => exact State.answersNext_read _ s p _
  | setFilter p l => exact State.answersNext_frame (fun t => t.doSetFilter_pending _ _) s p _
  | readFilter p => exact State.answersNext_frame (fun _ => rfl) s p _
  | streamStart p => exact State.answersNext_frame (fun t => t.doStart_pending _) s p _
  | streamStop p => exact State.answersNext_frame (fun t => t.doStop_pending _) s p _
  | streamHold p => exact State.answersNext_frame (fun t => t.doHold_pending _) s p _
  | streamResume p => exact State.answersNext_frame (fun t => t.doResume_pending _) s p _
  | streamResync p => exact State.answersNext_frame (fun t => t.doResync_pending _) s p _
  | streamReset p => exact State.answersNext_frame (fun _ => rfl) s p _
  | fetch p => exact State.answersNext_frame (fun t => t.doFetch_pending _) s p _
  | release p q => exact State.answersNext_frame (fun t => t.doRelease_pending _ _) s p _
  | readLatch p => exact State.answersNext_frame (fun t => t.doReadLatch_pending _) s p _
  | postCue p d code => exact State.answersNext_frame (fun t => t.doPostCue_pending _ _ _) s p _
  | readPortCounters p => exact State.answersNext_frame (fun _ => rfl) s p _
  | clearPortCounters p => exact State.answersNext_frame (fun _ => rfl) s p _

/-! ### A step on an empty queue -/

theorem State.clockByte_answersNext (s : State) (p : Port) (b : Byte) : s.AnswersNext (s.clockByte p b) := by
  unfold State.clockByte
  dsimp only
  split
  · exact State.answersNext_of_eq rfl
  split
  · split
    · exact exec_answersNext _ (s.updPort p PortIf.takeFrame)
    · exact State.answersNext_of_eq rfl
  · exact State.answersNext_of_eq rfl

theorem State.idle_answersNext (s : State) : s.AnswersNext s.idle := by
  unfold State.idle
  split
  · exact State.clockByte_answersNext (s.updPort .a _) .a _
  · exact State.clockByte_answersNext (s.updPort .b _) .b _
  · exact State.answersNext_of_eq (by simp)

end Sys2Proof.Machine
end

section
/-!
SUPPORT. The end of a set's handling leaves nothing of it: tracker by tracker, input by input, and then
for what comes behind them.
-/

namespace Sys2Proof.Machine

/-- No event of any tracker's last sample is waiting. -/
def State.NoneDue (s : State) : Prop := ∀ n, (s.trackers.get n).due = false

theorem Tracker.due_eq_false_iff (t : Tracker) : t.due = false ↔
    t.stallDue = false ∧ t.timeoutDue = false ∧ t.releaseDue = false ∧ t.levelDue = false := by
  simp [Tracker.due, and_assoc]

/-! ### A tracker at its boundaries has its stall count to watch, and nothing else -/

theorem State.silentEntry_due (s : State) (n : StringNo) (t : Tracker) :
    (s.silentEntry n t).due = t.stallDue := by
  have hstall : (s.silentEntry n t).stallDue = t.stallDue := rfl
  rw [Tracker.due, hstall]
  simp [State.silentEntry, Tracker.timeoutDue, Tracker.releaseDue, Tracker.levelDue]

theorem Tracker.mutedEntry_due (t : Tracker) : t.mutedEntry.due = t.stallDue := by
  have hstall : t.mutedEntry.stallDue = t.stallDue := rfl
  rw [Tracker.due, hstall]
  simp [Tracker.mutedEntry, Tracker.timeoutDue, Tracker.releaseDue, Tracker.levelDue]

/-- A boundary that leaves its tracker nothing due leaves nothing due where nothing was. -/
theorem State.BoundaryOf.noneDue {s t : State} {n : StringNo} {k : Tracker} {made : List Publication}
    (h : s.BoundaryOf t n k made) (hk : k.due = false) (hs : s.NoneDue) : t.NoneDue := by
  obtain ⟨-, ht, -⟩ := h
  intro m
  rw [ht]
  split
  · exact hk
  · exact hs m

theorem State.NoneDue.enterSilent {s : State} (h : s.NoneDue) (n : StringNo) : (s.enterSilent n).NoneDue :=
  (s.enterSilent_boundary n).noneDue
    (by rw [State.silentEntry_due]; exact ((Tracker.due_eq_false_iff _).mp (h n)).1) h

theorem State.NoneDue.enterMuted {s : State} (h : s.NoneDue) (n : StringNo) (c : EndCause) :
    (s.enterMuted n c).NoneDue := by
  by_cases hm : (s.trackers.get n).state = .muted
  · rwa [State.enterMuted_of_muted c hm]
  · exact (State.enterMuted_boundary c hm).noneDue
      (by rw [Tracker.mutedEntry_due]; exact ((Tracker.due_eq_false_iff _).mp (h n)).1) h

theorem State.NoneDue.of_eq {s t : State} (h : s.NoneDue) (ht : t.trackers = s.trackers) : t.NoneDue := by
  intro n
  rw [ht]
  exact h n

/-! ### The trackers' events -/

/-- Tracker n alone changes, and of the publications its own alone are made. -/
def State.Bounded (s t : State) (n : StringNo) : Prop := ∃ k made, s.BoundaryOf t n k made

theorem State.Bounded.refl (s : State) (n : StringNo) : s.Bounded s n := ⟨_, _, .refl s n⟩

theorem State.Bounded.trans {s t u : State} {n : StringNo} (h : s.Bounded t n) (h' : t.Bounded u n) :
    s.Bounded u n := by
  obtain ⟨k, made, hk⟩ := h
  obtain ⟨l, made', hl⟩ := h'
  exact ⟨l, _, hk.trans hl⟩

theorem State.Bounded.other {s t : State} {n m : StringNo} (h : s.Bounded t n) (hm : m ≠ n) :
    t.trackers.get m = s.trackers.get m := by
  obtain ⟨k, made, -, ht, -⟩ := h
  rw [ht, if_neg hm]

theorem State.updTracker_bounded (s : State) (n : StringNo) (f : Tracker → Tracker) :
    s.Bounded (s.updTracker n f) n := by
  refine ⟨f (s.trackers.get n), [], ⟨rfl, rfl, rfl, rfl⟩, fun m => ?_, fun p => ?_⟩
  · rw [State.updTracker_get]
    by_cases h : m = n <;> simp [h]
  · simp [State.waitsAfter]

theorem State.publishTrack_bounded (s : State) (n : StringNo) (k : TrackKind) :
    s.Bounded (s.publishTrack n k) n := ⟨_, _, s.publishTrack_boundary n k⟩

theorem State.enterSilent_bounded (s : State) (n : StringNo) : s.Bounded (s.enterSilent n) n :=
  ⟨_, _, s.enterSilent_boundary n⟩

theorem State.takeStall_bounded (s : State) (n : StringNo) : s.Bounded (s.takeStall n) n := by
  unfold State.takeStall
  split
  · exact s.updTracker_bounded n _
  · exact .refl s n

theorem State.takeTimeout_bounded (s : State) (n : StringNo) : s.Bounded (s.takeTimeout n) n := by
  unfold State.takeTimeout
  split
  · exact (s.updTracker_bounded n _).trans (State.enterSilent_bounded _ n)
  · exact .refl s n

theorem State.takeRelease_bounded (s : State) (n : StringNo) : s.Bounded (s.takeRelease n) n := by
  unfold State.takeRelease
  split
  · exact (s.publishTrack_bounded n _).trans (State.enterSilent_bounded _ n)
  · exact .refl s n

theorem State.takeLevel_bounded (s : State) (n : StringNo) : s.Bounded (s.takeLevel n) n := by
  unfold State.takeLevel
  split
  · exact (s.publishTrack_bounded n _).trans (State.updTracker_bounded _ n _)
  · exact .refl s n

theorem State.finishTracker_bounded (s : State) (n : StringNo) : s.Bounded (s.finishTracker n) n :=
  (((s.takeStall_bounded n).trans (State.takeTimeout_bounded _ n)).trans
    (State.takeRelease_bounded _ n)).trans (State.takeLevel_bounded _ n)

/-- A stall empties the history and its own count (R60, R61). -/
theorem State.takeStall_stallDue (s : State) (n : StringNo) :
    ((s.takeStall n).trackers.get n).stallDue = false := by
  by_cases h : (s.trackers.get n).stallDue = true
  · rw [State.takeStall, if_pos h, State.updTracker_same]
    rfl
  · rw [State.takeStall, if_neg h]
    simpa using h

/-- What an entry to SILENT leaves due: a stall at most. -/
theorem State.enterSilent_due (s : State) (n : StringNo) :
    ((s.enterSilent n).trackers.get n).due = (s.trackers.get n).stallDue := by
  rw [(s.enterSilent_spec n).2.1, State.silentEntry_due]

/-- The onset timeout is over once it is taken, and no stall comes with it (R83). -/
theorem State.takeTimeout_due {s : State} {n : StringNo} (h : (s.trackers.get n).stallDue = false) :
    ((s.takeTimeout n).trackers.get n).stallDue = false ∧
    ((s.takeTimeout n).trackers.get n).timeoutDue = false := by
  by_cases ht : (s.trackers.get n).timeoutDue = true
  · have hdue : ((s.takeTimeout n).trackers.get n).due = false := by
      rw [State.takeTimeout, if_pos ht, State.ghost, State.enterSilent_due, State.updTracker_same]
      exact h
    obtain ⟨h1, h2, -, -⟩ := (Tracker.due_eq_false_iff _).mp hdue
    exact ⟨h1, h2⟩
  · rw [State.takeTimeout, if_neg ht]
    exact ⟨h, by simpa using ht⟩

/-- The release timer's end is over once it is taken (R87). -/
theorem State.takeRelease_due {s : State} {n : StringNo} (h : (s.trackers.get n).stallDue = false)
    (ht : (s.trackers.get n).timeoutDue = false) :
    ((s.takeRelease n).trackers.get n).stallDue = false ∧
    ((s.takeRelease n).trackers.get n).timeoutDue = false ∧
    ((s.takeRelease n).trackers.get n).releaseDue = false := by
  by_cases hr : (s.trackers.get n).releaseDue = true
  · have hdue : ((s.takeRelease n).trackers.get n).due = false := by
      rw [State.takeRelease, if_pos hr, State.enterSilent_due]
      simpa using h
    obtain ⟨h1, h2, h3, -⟩ := (Tracker.due_eq_false_iff _).mp hdue
    exact ⟨h1, h2, h3⟩
  · rw [State.takeRelease, if_neg hr]
    exact ⟨h, ht, by simpa using hr⟩

/-- The level timer counts from 0 again, and the other counts stand (R88). -/
theorem State.takeLevel_due {s : State} {n : StringNo} (h : (s.trackers.get n).stallDue = false)
    (ht : (s.trackers.get n).timeoutDue = false) (hr : (s.trackers.get n).releaseDue = false) :
    ((s.takeLevel n).trackers.get n).due = false := by
  rw [Tracker.due_eq_false_iff]
  by_cases hl : (s.trackers.get n).levelDue = true
  · have htrackers : (s.publishTrack n .level).trackers = s.trackers := by simp
    rw [State.takeLevel, if_pos hl, State.updTracker_same, htrackers]
    exact ⟨h, ht, hr, by simp [Tracker.levelDue, Config.levelPeriod]⟩
  · rw [State.takeLevel, if_neg hl]
    exact ⟨h, ht, hr, by simpa using hl⟩

theorem State.finishTracker_due (s : State) (n : StringNo) :
    ((s.finishTracker n).trackers.get n).due = false := by
  obtain ⟨h2, t2⟩ := State.takeTimeout_due (s.takeStall_stallDue n)
  obtain ⟨h3, t3, r3⟩ := State.takeRelease_due h2 t2
  exact State.takeLevel_due h3 t3 r3

/-- A change of tracker n alone for each string in turn, which brings that tracker to P, brings all six. -/
theorem State.forStrings_each {P : Tracker → Prop} {f : StringNo → State → State}
    (hown : ∀ n t, P ((f n t).trackers.get n)) (hother : ∀ n t, State.Bounded t (f n t) n) (s : State)
    (m : StringNo) : P ((s.forStrings f).trackers.get m) := by
  have h (l : List StringNo) : ∀ t : State, m ∈ l ∨ P (t.trackers.get m) →
      P ((l.foldl (fun t n => f n t) t).trackers.get m) := by
    induction l with
    | nil => exact fun t ht => ht.resolve_left (by simp)
    | cons n l ih =>
      refine fun t ht => ih _ ?_
      by_cases hm : m = n
      · exact .inr (hm ▸ hown n t)
      · rw [(hother n t).other hm]
        exact ht.imp_left fun hmem => (List.mem_cons.mp hmem).resolve_left hm
  exact h StringNo.all s (.inl m.mem_all)

theorem State.finishTrackers_noneDue (s : State) : s.finishTrackers.NoneDue :=
  State.forStrings_each (P := fun t => t.due = false) (fun n t => t.finishTracker_due n)
    (fun n t => t.finishTracker_bounded n) s

/-! ### The inputs' events -/

/-- A due beginning begins the episode and a due report is made, so neither stays due (R5, R6). -/
theorem SenseInput.finished_not_due (u : SenseInput) :
    u.finished.beginDue = false ∧ u.finished.longDue = false := by
  have habsorb (a b : Bool) : (a && !(b || (a && !b))) = false := by cases a <;> cases b <;> rfl
  rw [SenseInput.finished_eq]
  exact ⟨habsorb u.stuckNow u.episode,
    habsorb (decide (Config.longLength ≤ u.rail.length)) u.longReported⟩

theorem State.NoneDue.dropChannel {s : State} (h : s.NoneDue) (i : Sin) : (s.dropChannel i).NoneDue := by
  cases hs : s.store.global.stringOf i with
  | none =>
    rw [State.dropChannel_of_none hs]
    exact h.of_eq rfl
  | some n =>
    rw [State.dropChannel_of_some hs]
    refine State.NoneDue.of_eq (s := s.muteDropped i n) ?_ (by simp)
    have hflag : State.NoneDue (((s.flagDropped i).linkNotice .channelDrop i.number n.number).raiseBoth
      .fault) := h.of_eq rfl
    exact hflag.enterMuted n .mute

theorem State.NoneDue.finishInput {s : State} (h : s.NoneDue) (i : Sin) : (s.finishInput i).NoneDue := by
  have hepisode : (s.takeEpisode i).NoneDue := h.of_eq (by simp)
  by_cases hl : ((s.takeEpisode i).siu.inputs.get i).longDue = true
  · rw [State.finishInput, State.takeStuckLong_of_due hl]
    have hreport : ((s.takeEpisode i).reportLong i).NoneDue := hepisode.of_eq rfl
    split
    · exact hreport.dropChannel i
    · exact hreport
  · rwa [State.finishInput, State.takeStuckLong_of_not_due (by simpa using hl)]

theorem State.NoneDue.finishInputs {s : State} (h : s.NoneDue) : s.finishInputs.NoneDue := by
  have hfold (l : List Sin) : ∀ t : State, t.NoneDue →
      (l.foldl (fun t i => t.finishInput i) t).NoneDue := by
    induction l with
    | nil => exact fun t ht => ht
    | cons i l ih => exact fun t ht => ih _ (ht.finishInput i)
  exact hfold Sin.all s h

/-! ### The window end and the capture end -/

theorem State.NoneDue.takeWindowEnd {s : State} (h : s.NoneDue) : s.takeWindowEnd.NoneDue := by
  have hleave (t : State) (ht : t.NoneDue) (n : StringNo) : (t.leaveMuted n).NoneDue := by
    unfold State.leaveMuted
    split
    · exact ht.enterSilent n
    · exact ht
  have hrelease (t : State) (ht : t.NoneDue) : t.releaseUsable.NoneDue :=
    State.forStrings_inv (P := State.NoneDue) (fun n t ht => by
      split
      · exact hleave t ht n
      · exact ht) ht
  have henter (t : State) (ht : t.NoneDue) : (t.enterLink .active).NoneDue := by
    unfold State.enterLink
    dsimp only
    split
    · have hmuted : State.NoneDue (t.forStrings fun n t => t.enterMuted n .link) :=
        State.forStrings_inv (P := State.NoneDue) (fun n _ ht => ht.enterMuted n .link) ht
      exact hmuted.of_eq (by simp [State.leaveActive])
    · exact ht.of_eq rfl
  unfold State.takeWindowEnd
  split
  · have hfloors : s.setFloors.NoneDue := h.of_eq (by simp)
    exact (hrelease _ (henter _ hfloors)).of_eq (by simp)
  · exact h

theorem State.windowDue_congr {s t : State} (h : t.link = s.link) : t.windowDue = s.windowDue := by
  rw [State.windowDue, State.windowDue, h]

theorem State.captureDue_congr {s t : State} (h : t.learn = s.learn) : t.captureDue = s.captureDue := by
  rw [State.captureDue, State.captureDue, h]

/-- A window end brings the link to ACTIVE, where no window runs (R22). -/
theorem State.takeWindowEnd_windowDue (s : State) : s.takeWindowEnd.windowDue = false := by
  by_cases h : s.windowDue = true
  · have hactive : s.takeWindowEnd.link.state = .active := by
      rw [State.takeWindowEnd, if_pos h]
      simp [State.markWindowEnd, State.setWidth, State.enterLink, Link.enter]
    simp [State.windowDue, hactive]
  · rw [State.takeWindowEnd, if_neg h]
    simpa using h

/-- A capture end ends the learn or hands its commit over, so none is due behind it (R124). -/
theorem State.captureEnd_captureDue (s : State) : s.captureEnd.captureDue = false := by
  by_cases h : s.captureDue = true
  · unfold State.captureDue at h
    unfold State.captureEnd
    split at h
    · next hl =>
      have hcount : Config.captureLength ≤ _ := of_decide_eq_true h
      simp only [if_pos hcount]
      split
      · rfl
      · rfl
    · exact absurd h (by simp)
  · rw [State.captureEnd_of_not_due (by simpa using h)]
    simpa using h

/-! ### The whole -/

/-- The end of a set's handling leaves nothing of it. -/
theorem State.finishSet_settled (s : State) : s.finishSet.settled = true := by
  have hevents : s.finishEvents = ((((s.finishTrackers).finishInputs).finishAux .sin6).finishAux
    .sin7).takeWindowEnd.captureEnd := rfl
  have htrackers : s.finishSet.NoneDue := by
    have hinputs : ((s.finishTrackers.finishInputs.finishAux .sin6).finishAux .sin7).NoneDue :=
      s.finishTrackers_noneDue.finishInputs.of_eq (by simp)
    exact hinputs.takeWindowEnd.of_eq (by simp [State.finishSet, hevents])
  have hquiet (x : AuxNo) : s.finishSet.auxQuiet x =
      ((s.finishTrackers.finishInputs.finishAux .sin6).finishAux .sin7).auxQuiet x :=
    State.auxQuiet_congr (by simp) (by simp [State.finishSet, hevents])
  refine s.finishSet.settled_iff.mpr ⟨?_, htrackers, fun i => ?_, ?_, ?_, ?_, ?_⟩
  · rw [State.finishSet_phase]
    omega
  · rw [State.finishSet_input]
    exact SenseInput.finished_not_due _
  · rw [hquiet, State.auxQuiet_congr (by simp) (State.finishAux_aux_other _ (by decide))]
    exact State.finishAux_quiet _ .sin6
  · rw [hquiet]
    exact State.finishAux_quiet _ .sin7
  · have hlink : s.finishSet.link =
        ((s.finishTrackers.finishInputs.finishAux .sin6).finishAux .sin7).takeWindowEnd.link := by
      simp [State.finishSet, hevents]
    rw [State.windowDue_congr hlink, State.takeWindowEnd_windowDue]
  · have hlearn : s.finishSet.learn = s.finishEvents.learn := by simp [State.finishSet]
    rw [State.captureDue_congr hlearn, hevents, State.captureEnd_captureDue]

end Sys2Proof.Machine
end

section
/-!
PROOF. A step on an empty queue: a byte, or a millisecond of the internal timebase (R10, R11, R18, R20, R122;
log entries 3 and 7).
-/

namespace Sys2Proof.Machine

theorem step_of_empty {s : State} (h : s.pending = []) : step s = s.idle := by
  simp [step, h]

theorem emptyQueueClocksAByte : Claims.EmptyQueueClocksAByte := by
  intro b l s h
  rw [step_of_empty h]
  exact ⟨fun ha => by simp [State.idle, ha], fun ha hb => by simp [State.idle, ha, hb]⟩

/-! ### The bytes that wait are the outside's -/

/-- No byte waits at either port. -/
def State.NoBytes (s : State) : Prop := ∀ p, (s.ports.get p).sdi = []

/-- What waits to be clocked is not changed. -/
def State.SameBytes (s t : State) : Prop := ∀ p, (t.ports.get p).sdi = (s.ports.get p).sdi

theorem State.SameBytes.of_ports {s t : State} (h : t.ports = s.ports) : s.SameBytes t := fun p => by rw [h]

theorem State.SameBytes.trans {s t u : State} (h : s.SameBytes t) (h' : t.SameBytes u) : s.SameBytes u :=
  fun p => (h' p).trans (h p)

theorem State.SameBytes.noBytes {s t : State} (h : s.SameBytes t) (hs : s.NoBytes) : t.NoBytes :=
  fun p => (h p).trans (hs p)

theorem State.raise_sameBytes (s : State) (p : Port) (f : Flag) : s.SameBytes (s.raise p f) := fun q => by
  rw [State.raise_port]
  split <;> rfl

theorem State.raiseBoth_sameBytes (s : State) (f : Flag) : s.SameBytes (s.raiseBoth f) :=
  (s.raise_sameBytes .a f).trans (State.raise_sameBytes _ .b f)

theorem State.failLearn_sameBytes (s : State) (r : LearnReason) : s.SameBytes (s.failLearn r) := by
  unfold State.failLearn
  split
  · exact .of_ports rfl
  · exact State.SameBytes.trans (.of_ports rfl) (State.raise_sameBytes _ _ _)

theorem State.learnDropped_sameBytes (s : State) (n : StringNo) : s.SameBytes (s.learnDropped n) := by
  unfold State.learnDropped
  split
  · exact .of_ports rfl
  · split
    · exact s.failLearn_sameBytes .link
    · exact .of_ports rfl

theorem State.captureEnd_sameBytes (s : State) : s.SameBytes s.captureEnd := by
  unfold State.captureEnd
  split
  · split
    · split
      · exact State.SameBytes.trans (.of_ports rfl) (State.raise_sameBytes _ _ _)
      · exact .of_ports rfl
    · exact .of_ports rfl
  · exact .of_ports rfl

theorem State.enterLink_sameBytes (s : State) (st : LinkState) : s.SameBytes (s.enterLink st) := by
  have hleave : s.SameBytes s.leaveActive := by
    have htrackers : (s.forStrings fun n t => t.enterMuted n .link).ports = s.ports :=
      State.forStrings_keeps State.ports s _ fun n t => by simp
    have hlink (t : State) (k : Link) : t.SameBytes (State.learnLinkLost { t with link := k }) :=
      State.failLearn_sameBytes { t with link := k } .link
    exact (State.SameBytes.of_ports htrackers).trans (hlink _ _)
  have henter (t : State) : t.SameBytes (State.raiseBoth { t with link := t.link.enter st } .link) :=
    .trans (.of_ports rfl) (State.raiseBoth_sameBytes _ _)
  unfold State.enterLink
  dsimp only
  split
  · exact hleave.trans (henter _)
  · exact henter s

theorem State.dropChannel_sameBytes (s : State) (i : Sin) : s.SameBytes (s.dropChannel i) := by
  cases hs : s.store.global.stringOf i with
  | none =>
    rw [State.dropChannel_of_none hs]
    exact .trans (.of_ports rfl) (State.raiseBoth_sameBytes _ _)
  | some n =>
    have hmute : s.SameBytes (s.muteDropped i n) := fun p => by rw [State.muteDropped_port]
    rw [State.dropChannel_of_some hs]
    exact hmute.trans (.trans (.of_ports (by simp)) (State.learnDropped_sameBytes _ n))

theorem State.finishInput_sameBytes (s : State) (i : Sin) : s.SameBytes (s.finishInput i) := by
  have hepisode : s.SameBytes (s.takeEpisode i) := .of_ports (by simp)
  by_cases h : ((s.takeEpisode i).siu.inputs.get i).longDue = true
  · rw [State.finishInput, State.takeStuckLong_of_due h]
    have hreport : s.SameBytes ((s.takeEpisode i).reportLong i) := hepisode.trans (.of_ports rfl)
    split
    · exact hreport.trans (State.dropChannel_sameBytes _ i)
    · exact hreport
  · rwa [State.finishInput, State.takeStuckLong_of_not_due (by simpa using h)]

theorem State.finishInputs_sameBytes (s : State) : s.SameBytes s.finishInputs := by
  have h (l : List Sin) : ∀ t : State, s.SameBytes t →
      s.SameBytes (l.foldl (fun t i => t.finishInput i) t) := by
    induction l with
    | nil => exact fun t ht => ht
    | cons i l ih => exact fun t ht => ih _ (ht.trans (t.finishInput_sameBytes i))
  exact h Sin.all s (.of_ports rfl)

theorem State.takeWindowEnd_sameBytes (s : State) : s.SameBytes s.takeWindowEnd := by
  unfold State.takeWindowEnd
  split
  · have hfloors : s.SameBytes s.setFloors := .of_ports (by simp)
    exact (hfloors.trans (State.enterLink_sameBytes _ .active)).trans (.of_ports (by simp))
  · exact .of_ports rfl

theorem State.finishSet_sameBytes (s : State) : s.SameBytes s.finishSet := by
  have htrackers : s.SameBytes s.finishTrackers := .of_ports (by simp)
  have hinputs := htrackers.trans (State.finishInputs_sameBytes _)
  have haux : s.SameBytes ((s.finishTrackers.finishInputs.finishAux .sin6).finishAux .sin7) :=
    hinputs.trans (.of_ports (by simp))
  have hhandled (t : State) : t.SameBytes t.endHandling := .of_ports rfl
  rw [State.finishSet, State.finishEvents]
  exact ((haux.trans (State.takeWindowEnd_sameBytes _)).trans (State.captureEnd_sameBytes _)).trans
    (hhandled _)

/-! ### A millisecond -/

/-- Without a row and without a byte a step is a millisecond. -/
theorem step_of_quiet {s : State} (h : s.pending = []) (hb : s.NoBytes) : step s = .next s.tick := by
  have ha : s.ports.a.sdi = [] := hb .a
  have hb : s.ports.b.sdi = [] := hb .b
  rw [step_of_empty h]
  simp [State.idle, ha, hb]

/-- The watch's next millisecond begins. -/
def State.watchBegun (s : State) : State := { s with siu := { s.siu with fed := false } }

theorem State.watchBegun_of_unfed {s : State} (h : s.siu.fed = false) : s.watchBegun = s := by
  rw [State.watchBegun, ← h]

/-- The power-up delay is a millisecond shorter. -/
def State.delayCounted (s : State) : State :=
  { s with link := { s.link with delayMs := s.link.delayMs.map fun k => k - 1 } }

/-- A learn whose arm timer is a millisecond shorter. -/
def Learn.armCounted (l : Learn) : Learn :=
  match l.state with
  | .armed g k => { l with state := .armed g (k - 1) }
  | _ => l

/-- The watch, the power-up delay and the arm timer are a millisecond further. -/
def State.counted (s : State) : State :=
  { s.watchBegun.delayCounted with learn := s.learn.armCounted }

theorem Learn.armCounted_of_not_armed {l : Learn} (h : ∀ g k, l.state ≠ .armed g k) :
    l.armCounted = l := by
  unfold Learn.armCounted
  split
  · next g k hl => exact absurd hl (h g k)
  · rfl

/-- The watch does not end this millisecond, so its next one begins. -/
theorem State.tickWatch_of_watched {s : State} (h : s.siu.watch = false ∨ s.siu.fed = true) :
    s.tickWatch = s.watchBegun := by
  rcases h with h | h <;> simp [State.tickWatch, State.watchBegun, h]

theorem State.delayCounted_of_none {s : State} (h : s.link.delayMs = none) : s.delayCounted = s := by
  have hmap : (s.link.delayMs.map fun k => k - 1) = s.link.delayMs := by rw [h]; rfl
  rw [State.delayCounted, hmap]

/-- The power-up delay does not end this millisecond, so it runs down by one. -/
theorem State.tickDelay_of_running {s : State} (h : ∀ k, s.link.delayMs = some k → 2 ≤ k) :
    s.tickDelay = s.delayCounted := by
  unfold State.tickDelay
  split
  · next hd => exact (State.delayCounted_of_none hd).symm
  · next k hd =>
    have hk := h k hd
    rw [if_neg (by omega), State.delayCounted, hd]
    rfl

/-- The power-up delay ends this millisecond (R20). -/
theorem State.tickDelay_of_due {s : State} {k : Nat} (h : s.link.delayMs = some k) (hk : k ≤ 1) :
    s.tickDelay = s.powerUpEnd := by
  simp [State.tickDelay, h, hk]

/-- The arm timer does not expire this millisecond, so it runs down by one. -/
theorem State.tickArm_of_running {s : State} (h : ∀ g k, s.learn.state = .armed g k → 2 ≤ k) :
    s.tickArm = { s with learn := s.learn.armCounted } := by
  unfold State.tickArm
  split
  · next g k hl =>
    have hk := h g k hl
    rw [if_neg (by omega), Learn.armCounted, hl]
  · next hl => rw [Learn.armCounted_of_not_armed fun g k h => hl g k h]

/-- The arm timer expires this millisecond (R122). -/
theorem State.tickArm_of_due {s : State} {g : Target} {k : Nat} (h : s.learn.state = .armed g k)
    (hk : k ≤ 1) : s.tickArm = s.armEnd := by
  simp [State.tickArm, h, hk]

theorem State.tickHold_of_held {s : State} (h : s.link.holdMs < 19) :
    s.tickHold = { s with link := { s.link with holdMs := s.link.holdMs + 1 } } := by
  have hk : min Config.presenceMs (s.link.holdMs + 1) = s.link.holdMs + 1 := by
    simp only [Config.presenceMs]
    omega
  have hne : s.link.holdMs + 1 ≠ Config.presenceMs := by
    simp only [Config.presenceMs]
    omega
  simp only [State.tickHold, hk, if_neg hne]

/-- The twentieth millisecond ends the hold time (R18). -/
theorem State.tickHold_of_due {s : State} (h : 19 ≤ s.link.holdMs) :
    s.tickHold = State.holdEnd { s with link := { s.link with holdMs := Config.presenceMs } }
      s.link.candidate := by
  have hk : min Config.presenceMs (s.link.holdMs + 1) = Config.presenceMs := by
    simp only [Config.presenceMs]
    omega
  simp only [State.tickHold, hk, if_true]

/-- With no timer at its end the first three timers count a millisecond. -/
theorem State.tickArm_of_counting {s : State} (hw : s.siu.watch = false ∨ s.siu.fed = true)
    (hd : ∀ k, s.link.delayMs = some k → 2 ≤ k) (ha : ∀ g k, s.learn.state = .armed g k → 2 ≤ k) :
    s.tickWatch.tickDelay.tickArm = s.counted := by
  rw [State.tickWatch_of_watched hw, State.tickDelay_of_running (s := s.watchBegun) hd,
    State.tickArm_of_running (s := s.watchBegun.delayCounted) ha]
  rfl

/-- A step from a settled state without a row and without a byte takes the four timers in turn. -/
theorem step_of_settled {s : State} (h : s.pending = []) (hb : s.NoBytes) (hs : s.settled = true) :
    step s = .next s.tickWatch.tickDelay.tickArm.tickHold := by
  rw [step_of_quiet h hb, State.tick, State.finishSet_of_settled hs]

/-- Two settled states of which the one's first three timers act as the other's take the same step. -/
theorem step_eq_of_timers {s t : State} (h : s.pending = []) (hb : s.NoBytes) (hs : s.settled = true)
    (hp : t.pending = s.pending) (hbytes : s.SameBytes t) (ht : t.settled = true)
    (htimers : s.tickWatch.tickDelay.tickArm = t.tickWatch.tickDelay.tickArm) : step s = step t := by
  rw [step_of_settled h hb hs, step_of_settled (hp.trans h) (hbytes.noBytes hb) ht, htimers]

/-! ### The watch runs out (R11) -/

theorem State.loseWordClock_sameBytes (s : State) : s.SameBytes s.loseWordClock :=
  .trans (.of_ports rfl) (State.raiseBoth_sameBytes _ _)

/-- The loss of the word clock leaves nothing of a set to be finished. -/
theorem State.loseWordClock_settled (s : State) : s.loseWordClock.settled = s.settled := rfl

theorem State.loseWordClock_watch (s : State) :
    s.loseWordClock.siu.watch = false ∧ s.loseWordClock.siu.fed = false := ⟨rfl, rfl⟩

theorem State.tickWatch_loseWordClock (s : State) : s.loseWordClock.tickWatch = s.loseWordClock := by
  obtain ⟨hwatch, hfed⟩ := s.loseWordClock_watch
  rw [State.tickWatch_of_watched (.inl hwatch), State.watchBegun_of_unfed hfed]

theorem watchEndActsFirst {s t : State} (h : s.pending = []) (hb : s.NoBytes) (hs : s.settled = true)
    (hfed : s.siu.fed = false) (ht : exec .wordClockLoss s = .next t) : step s = step t := by
  rw [exec_wordClockLoss, State.finishSet_of_settled hs] at ht
  obtain rfl := Host.Outcome.next.inj ht
  by_cases hw : s.siu.watch = true
  · have hend : s.watchEnd = s.loseWordClock := by simp [State.watchEnd, hw]
    have htick : s.tickWatch = s.loseWordClock := by simp [State.tickWatch, hw, hfed]
    rw [hend]
    exact step_eq_of_timers h hb hs (by simp) s.loseWordClock_sameBytes
      (s.loseWordClock_settled.trans hs) (by rw [htick, State.tickWatch_loseWordClock])
  · have hend : s.watchEnd = s := by simp [State.watchEnd, hw]
    rw [hend]

/-! ### The power-up delay ends (R20) -/

theorem State.enterLink_of_not_active {s : State} (st : LinkState) (h : s.link.state ≠ .active) :
    s.enterLink st = State.raiseBoth { s with link := s.link.enter st } .link := by
  simp [State.enterLink, h]

/-- A new settle window has run for no set, so its end is not due (R21). -/
theorem State.enterSettling_settled {s : State} (h : s.link.state ≠ .active) (hs : s.settled = true) :
    (s.enterLink .settling).settled = true := by
  obtain ⟨he, ht, hi, h6, h7, -, hc⟩ := s.settled_iff.mp hs
  rw [State.enterLink_of_not_active _ h]
  exact (State.settled_iff _).mpr ⟨he, ht, hi, h6, h7, rfl, hc⟩

theorem powerUpEndActs {s t : State} {k : Nat} (h : s.pending = []) (hb : s.NoBytes)
    (hs : s.settled = true) (hw : s.siu.watch = false ∨ s.siu.fed = true)
    (hd : s.link.delayMs = some k) (hk : k ≤ 1) (ht : exec .powerUpDelayEnd s = .next t) :
    step s = step t := by
  have hexec : exec .powerUpDelayEnd s = .next s.finishSet.powerUpEnd := rfl
  rw [hexec, State.finishSet_of_settled hs] at ht
  obtain rfl := Host.Outcome.next.inj ht
  by_cases hp : s.link.state = .powering
  · have hne : s.link.state ≠ .active := by simp [hp]
    have hend : s.powerUpEnd = s.enterLink .settling := by simp [State.powerUpEnd, hp]
    have htick : s.tickWatch.tickDelay = (s.enterLink .settling).watchBegun := by
      have hcommute : s.watchBegun.powerUpEnd = (s.enterLink .settling).watchBegun := by
        have hbegun : s.watchBegun.powerUpEnd = s.watchBegun.enterLink .settling := by
          simp [State.powerUpEnd, State.watchBegun, hp]
        rw [hbegun, State.enterLink_of_not_active (s := s.watchBegun) _ hne,
          State.enterLink_of_not_active _ hne]
        rfl
      rw [State.tickWatch_of_watched hw, State.tickDelay_of_due (s := s.watchBegun) hd hk, hcommute]
    have hnone : (s.enterLink .settling).watchBegun.link.delayMs = none := by
      rw [State.enterLink_of_not_active _ hne]
      rfl
    have htick' : (s.enterLink .settling).tickWatch.tickDelay = (s.enterLink .settling).watchBegun := by
      rw [State.tickWatch_of_watched (by simpa using hw),
        State.tickDelay_of_running (by rw [hnone]; simp), State.delayCounted_of_none hnone]
    rw [hend]
    exact step_eq_of_timers h hb hs (by simp) (s.enterLink_sameBytes _)
      (State.enterSettling_settled hne hs) (by rw [htick, htick'])
  · have hend : s.powerUpEnd = s := by simp [State.powerUpEnd, hp]
    rw [hend]

/-! ### The arm timer expires (R122) -/

theorem State.armEnd_of_armed {s : State} {g : Target} {k : Nat} (h : s.learn.state = .armed g k) :
    s.armEnd = s.endLearn g (LastResult.failed .timeout) := by
  simp [State.armEnd, State.failLearn, h, LearnState.open?]

theorem State.endLearn_settled {s : State} (g : Target) (r : LastResult) (hs : s.settled = true) :
    (s.endLearn g r).settled = true := by
  obtain ⟨he, ht, hi, h6, h7, hw, -⟩ := s.settled_iff.mp hs
  exact (State.settled_iff _).mpr ⟨he, ht, hi, h6, h7, hw, rfl⟩

theorem armEndActs {s t : State} {g : Target} {k : Nat} (h : s.pending = []) (hb : s.NoBytes)
    (hs : s.settled = true) (hw : s.siu.watch = false ∨ s.siu.fed = true)
    (hd : ∀ j, s.link.delayMs = some j → 2 ≤ j) (hl : s.learn.state = .armed g k) (hk : k ≤ 1)
    (ht : exec .armTimerExpiry s = .next t) : step s = step t := by
  have hexec : exec .armTimerExpiry s = .next s.finishSet.armEnd := rfl
  rw [hexec, State.finishSet_of_settled hs, State.armEnd_of_armed hl] at ht
  obtain rfl := Host.Outcome.next.inj ht
  have hbytes (r : LastResult) : s.SameBytes (s.endLearn g r) :=
    .trans (.of_ports rfl) (State.raise_sameBytes _ _ _)
  have hidle (r : LastResult) :
      ((s.endLearn g r).watchBegun.delayCounted).tickArm = (s.endLearn g r).watchBegun.delayCounted := rfl
  have hcommute (r : LastResult) :
      s.watchBegun.delayCounted.endLearn g r = (s.endLearn g r).watchBegun.delayCounted := rfl
  refine step_eq_of_timers h hb hs rfl (hbytes _) (State.endLearn_settled g _ hs) ?_
  rw [State.tickWatch_of_watched hw, State.tickDelay_of_running (s := s.watchBegun) hd,
    State.tickArm_of_due (s := s.watchBegun.delayCounted) hl hk,
    State.armEnd_of_armed (s := s.watchBegun.delayCounted) hl, hcommute,
    State.tickWatch_of_watched (s := s.endLearn g _) hw,
    State.tickDelay_of_running (s := (s.endLearn g _).watchBegun) hd, hidle]

/-! ### The hold time ends (R18) -/

/-- The debounced presence and the hold time are as they were. -/
def State.SamePresence (s t : State) : Prop :=
  t.link.presence = s.link.presence ∧ t.link.holdMs = s.link.holdMs

theorem State.enterLink_samePresence (s : State) (st : LinkState) : s.SamePresence (s.enterLink st) := by
  have henter (k : Link) : (k.enter st).presence = k.presence ∧ (k.enter st).holdMs = k.holdMs := by
    cases st <;> exact ⟨rfl, rfl⟩
  have hleave : s.leaveActive.link = { s.link with expect := false, width := 0 } := by
    have hmuted : (s.forStrings fun n t => t.enterMuted n .link).link = s.link :=
      State.forStrings_keeps State.link s _ fun n t => by simp
    simp [State.leaveActive, hmuted]
  unfold State.enterLink
  dsimp only
  split
  · obtain ⟨hp, hh⟩ := henter s.leaveActive.link
    exact ⟨hp.trans (by rw [hleave]), hh.trans (by rw [hleave])⟩
  · exact henter s.link

theorem State.enterLinkNoticed_samePresence (s : State) (st : LinkState) :
    s.SamePresence (s.enterLinkNoticed st) := by
  obtain ⟨hp, hh⟩ := s.enterLink_samePresence st
  exact ⟨hp, hh⟩

theorem State.presenceTrue_presence (s : State) : (s.debounce true).SamePresence s.presenceTrue := by
  unfold State.presenceTrue
  dsimp only
  split
  · exact State.enterLink_samePresence _ _
  · exact ⟨rfl, rfl⟩

theorem State.presenceFalse_presence (s : State) : (s.debounce false).SamePresence s.presenceFalse := by
  have habsent := (s.debounce false).enterLinkNoticed_samePresence .absent
  unfold State.presenceFalse
  dsimp only
  split
  case h_1 | h_2 => exact ⟨rfl, rfl⟩
  case h_3 | h_4 | h_5 => exact habsent
  case h_6 => split <;> exact habsent

/-- A hold time that has run for its 20 ms makes the presence the level that was held. -/
theorem State.holdEnd_presence {s : State} (hh : s.link.holdMs = Config.presenceMs)
    (hpin : s.link.presPin = s.link.candidate) :
    (s.holdEnd s.link.candidate).link.presence = s.link.candidate ∧
    (s.holdEnd s.link.candidate).link.holdMs = Config.presenceMs := by
  by_cases hp : s.link.presence = s.link.candidate
  · have hstay : s.holdEnd s.link.candidate = s := by
      simp [State.holdEnd, Link.presenceWaits, hp]
    rw [hstay]
    exact ⟨hp, hh⟩
  · have hwaits : s.link.presenceWaits s.link.candidate = true := by
      simp [Link.presenceWaits, hpin, hp]
    rw [State.holdEnd, if_pos hwaits]
    cases s.link.candidate with
    | true => exact s.presenceTrue_presence
    | false => exact s.presenceFalse_presence

theorem emptyQueueIsAMillisecond : Claims.EmptyQueueIsAMillisecond := by
  intro s hp hba hbb watched delays arms
  have hb : s.NoBytes := fun p => by cases p <;> assumption
  refine ⟨?_, ?_, ?_, ?_, ?_, ?_⟩
  · have hfinish := step_of_quiet (s := s.finishSet) (by simpa using hp) (s.finishSet_sameBytes.noBytes hb)
    rw [step_of_quiet hp hb, hfinish, State.tick, State.tick,
      State.finishSet_of_settled s.finishSet_settled]
  · intro hs hw hd ha hh
    rw [step_of_settled hp hb hs, State.tickArm_of_counting hw hd ha,
      State.tickHold_of_held (s := s.counted) hh]
    rfl
  · exact fun t hs hfed ht => watchEndActsFirst hp hb hs hfed ht
  · exact fun t k hs hw hd hk ht => powerUpEndActs hp hb hs hw hd hk ht
  · exact fun g k t hs hw hd hl hk ht => armEndActs hp hb hs hw hd hl hk ht
  · intro hs hw hd ha hh hpin
    refine ⟨_, step_of_settled hp hb hs, ?_⟩
    rw [State.tickArm_of_counting hw hd ha,
      State.tickHold_of_due (s := s.counted) hh]
    exact State.holdEnd_presence (s := { s.counted with
      link := { s.counted.link with holdMs := Config.presenceMs } }) rfl hpin

/-- Settles O4: an empty queue leaves a byte to be clocked, or a millisecond to pass. -/
theorem emptyQueueLetsAMillisecondPass : Obligations.EmptyQueueLetsAMillisecondPass := by
  refine ⟨fun s h => ?_, emptyQueueClocksAByte, emptyQueueIsAMillisecond⟩
  obtain ⟨t, ht, hp⟩ := s.idle_answersNext
  exact ⟨t, (step_of_empty h).trans ht, hp.trans h⟩

end Sys2Proof.Machine
end

section
/-!
PROOF. Leaving ACTIVE: the six trackers enter MUTED, the link monitor forgets EXPECT and width, and a learn
that can still be ended fails (R17, R25, R28, R78, R127).
-/

namespace Sys2Proof.Machine

/-! ### The trackers -/

/-- A tracker once its string has lost its usability (R78). -/
def Tracker.muted (t : Tracker) : Tracker := if t.state = .muted then t else t.mutedEntry

/-- What a tracker publishes when its string loses its usability: the END of a held note (R78). -/
def Tracker.mutedEnds (t : Tracker) (n : StringNo) (c : EndCause) : List Publication :=
  if t.state = .muted then [] else t.note.toList.map fun h => .track n (.ended c) h (levelOf t.e)

theorem Tracker.muted_of_muted {t : Tracker} (h : t.state = .muted) : t.muted = t := if_pos h

theorem Tracker.muted_of_ne {t : Tracker} (h : t.state ≠ .muted) : t.muted = t.mutedEntry := if_neg h

@[simp] theorem Tracker.muted_state (t : Tracker) : t.muted.state = .muted := by
  by_cases h : t.state = .muted
  · rw [Tracker.muted_of_muted h, h]
  · rw [Tracker.muted_of_ne h, Tracker.mutedEntry]

/-- An entry to MUTED as a boundary, from whatever state (R78). -/
theorem State.enterMuted_lost (s : State) (n : StringNo) (c : EndCause) :
    s.BoundaryOf (s.enterMuted n c) n (s.trackers.get n).muted ((s.trackers.get n).mutedEnds n c) := by
  by_cases h : (s.trackers.get n).state = .muted
  · rw [State.enterMuted_of_muted c h, Tracker.muted_of_muted h, Tracker.mutedEnds, if_pos h]
    exact .refl s n
  · rw [Tracker.muted_of_ne h, Tracker.mutedEnds, if_neg h]
    exact State.enterMuted_boundary c h

/-- Every string has lost its usability (R17). -/
def State.muteAll (s : State) : State := s.forStrings fun n t => t.enterMuted n .link

theorem State.muteAll_boundaries (s : State) :
    s.SameRules s.muteAll ∧ (∀ n, s.muteAll.trackers.get n = (s.trackers.get n).muted) ∧
    ∀ p, s.muteAll.streams.get p = { s.streams.get p with
      waiting := (s.streams.get p).waiting ++
        s.waitingOf StringNo.all fun n => (s.trackers.get n).mutedEnds n .link } :=
  State.forStrings_boundaries fun n t _ ht => ht ▸ t.enterMuted_lost n .link

@[simp] theorem State.muteAll_keeps (s : State) :
    s.muteAll.siu = s.siu ∧ s.muteAll.link = s.link ∧ s.muteAll.cond = s.cond ∧
    s.muteAll.store = s.store ∧ s.muteAll.learn = s.learn ∧ s.muteAll.ports = s.ports ∧
    s.muteAll.phase = s.phase := by
  refine ⟨?_, ?_, ?_, ?_, ?_, ?_, ?_⟩ <;> exact State.forStrings_keeps _ _ _ fun n t => by simp

/-! ### The link monitor and the Learn Engine -/

/-- The link monitor once its EXPECT and its width are gone (R25, R28). -/
def Link.left (k : Link) : Link := { k with expect := false, width := 0 }

theorem State.leaveActive_eq (s : State) :
    s.leaveActive = State.failLearn { s.muteAll with link := s.link.left } .link := by
  have hlost (m : State) : State.learnLinkLost { m with link := { m.link with expect := false, width := 0 } } =
      State.failLearn { m with link := m.link.left } .link := rfl
  have hlink : s.muteAll.link = s.link := by simp
  rw [← hlink, ← hlost s.muteAll, State.leaveActive, State.muteAll]

theorem State.failLearn_of_closed {s : State} (r : LearnReason) (h : s.learn.state.open? = none) :
    s.failLearn r = s := by
  simp [State.failLearn, h]

theorem State.failLearn_of_open {s : State} {g : Target} (r : LearnReason)
    (h : s.learn.state.open? = some g) : s.failLearn r = s.endLearn g (LastResult.failed r) := by
  simp [State.failLearn, h]

/-- An ending leaves no learn that could still be ended. -/
theorem State.failLearn_open (s : State) (r : LearnReason) : (s.failLearn r).learn.state.open? = none := by
  cases h : s.learn.state.open? with
  | none => rw [State.failLearn_of_closed r h, h]
  | some g => rw [State.failLearn_of_open r h]; rfl

theorem State.leaveActive_link (s : State) : s.leaveActive.link = s.link.left := by
  simp [State.leaveActive_eq]

theorem State.leaveActive_tracker (s : State) (n : StringNo) :
    s.leaveActive.trackers.get n = (s.trackers.get n).muted := by
  obtain ⟨-, ht, -⟩ := s.muteAll_boundaries
  simp [State.leaveActive_eq, ht]

theorem State.leaveActive_stream (s : State) (p : Port) :
    s.leaveActive.streams.get p = { s.streams.get p with
      waiting := (s.streams.get p).waiting ++
        s.waitingOf StringNo.all fun n => (s.trackers.get n).mutedEnds n .link } := by
  obtain ⟨-, -, hw⟩ := s.muteAll_boundaries
  simp [State.leaveActive_eq, hw]

theorem State.leaveActive_open (s : State) : s.leaveActive.learn.state.open? = none := by
  rw [State.leaveActive_eq]
  exact State.failLearn_open _ _

/-- Publications of which each string makes one at most, as a list over the strings that make one. -/
theorem State.waitingOf_toList (s : State) (l : List StringNo) (f : StringNo → Option Publication) :
    s.waitingOf l (fun n => (f n).toList) =
      l.filterMap fun n => (f n).map fun u => ⟨.tracker n, s.siu.stamp, s.phase, u⟩ := by
  induction l with
  | nil => rfl
  | cons n l ih =>
    rw [State.waitingOf, List.flatMap_cons, ← State.waitingOf, ih, List.filterMap_cons]
    cases f n <;> rfl

/-- The END that a tracker publishes, if it publishes one (R78). -/
theorem Tracker.mutedEnds_eq (t : Tracker) (n : StringNo) (c : EndCause) : t.mutedEnds n c =
    (if t.state = .muted then none
      else t.note.map fun h => Publication.track n (.ended c) h (levelOf t.e)).toList := by
  by_cases h : t.state = .muted
  · simp [Tracker.mutedEnds, h]
  · cases hn : t.note <;> simp [Tracker.mutedEnds, h, hn]

theorem State.leaveActive_learn (s : State) :
    match s.learn.state.open? with
    | none => s.leaveActive.learn = s.learn ∧ s.leaveActive.ports = s.ports
    | some g => s.leaveActive.learn.state = .idle ∧
        s.leaveActive.learn.last = { LastResult.failed .link with target := some (g, s.siu.stamp) } ∧
        s.leaveActive.ports = (s.raise g.port .learnDone).ports := by
  have hlearn : s.muteAll.learn = s.learn := by simp
  have hports : s.muteAll.ports = s.ports := by simp
  have hsiu : s.muteAll.siu = s.siu := by simp
  rw [State.leaveActive_eq]
  generalize s.muteAll = m at *
  cases ho : s.learn.state.open? with
  | none =>
    rw [State.failLearn_of_closed (s := { m with link := _ }) _ (hlearn ▸ ho)]
    exact ⟨hlearn, hports⟩
  | some g =>
    rw [State.failLearn_of_open (s := { m with link := _ }) _ (hlearn ▸ ho), ← hsiu]
    refine ⟨rfl, rfl, ?_⟩
    simp only [State.endLearn, State.raise, State.updPort, hports]

/-- Settles O13: the boundaries of the six trackers, the link without EXPECT and width, the failed learn. -/
theorem leavingActive : Obligations.LeavingActive := by
  intro s
  obtain ⟨hsiu, hcond, hstore, -, -⟩ := s.leaveActive_keeps
  refine ⟨s.leaveActive_link, hsiu, hcond, hstore, fun n => ?_, fun p => ?_, s.leaveActive_learn⟩
  · rw [s.leaveActive_tracker n]
    by_cases h : (s.trackers.get n).state = .muted
    · rw [Tracker.muted_of_muted h]
      exact ⟨h, rfl, rfl, rfl, rfl, rfl, rfl, rfl, rfl, fun _ => rfl, fun hne => absurd h hne⟩
    · rw [Tracker.muted_of_ne h]
      exact ⟨rfl, rfl, rfl, rfl, rfl, rfl, rfl, rfl, rfl, fun hm => absurd hm h,
        fun _ => ⟨rfl, rfl, rfl, rfl, rfl, rfl, rfl⟩⟩
  · simp only [s.leaveActive_stream p, Tracker.mutedEnds_eq, State.waitingOf_toList]
    refine congrArg _ (List.filterMap_congr fun n _ => ?_)
    by_cases h : (s.trackers.get n).state = .muted
    · simp [h]
    · cases hn : (s.trackers.get n).note <;> simp [h]

end Sys2Proof.Machine
end

section
/-!
PROOF. The transitions of the link: presence, the power-up delay, over-current and the link commands (R17 to
R20, R23 to R26, R30 to R32).
-/

namespace Sys2Proof.Machine

/-! ### Flags -/

theorem Flag.bit_lt (f : Flag) : f.bit < 16 := by cases f <;> decide

theorem Flag.bit_inj {f g : Flag} : f.bit = g.bit ↔ f = g := by
  cases f <;> cases g <;> simp [Flag.bit]

/-- Raising a flag sets it and no other (R183). -/
theorem Flag.isSet_raiseIn (f g : Flag) (w : Half) :
    f.isSet (raiseIn w g) = (f.isSet w || decide (f = g)) := by
  simp only [Flag.isSet, raiseIn, Flag.word, BitVec.getLsbD_or, BitVec.getLsbD_ofNat, Nat.testBit_two_pow,
    f.bit_lt, decide_true, Bool.true_and, eq_comm (a := g.bit), Flag.bit_inj]

/-- Leaving ACTIVE raises LEARN_DONE at most. -/
theorem State.leaveActive_flag (s : State) (p : Port) {f : Flag} (hf : f ≠ .learnDone) :
    f.isSet (s.leaveActive.ports.get p).flags = f.isSet (s.ports.get p).flags := by
  have hlearn := s.leaveActive_learn
  split at hlearn
  · obtain ⟨-, hports⟩ := hlearn
    rw [hports]
  · obtain ⟨-, -, hports⟩ := hlearn
    rw [hports, State.raise_port]
    split
    · simp [Flag.isSet_raiseIn, hf]
    · rfl

/-! ### A transition -/

theorem State.enterLink_of_active {s : State} (st : LinkState) (h : s.link.state = .active) :
    s.enterLink st =
      State.raiseBoth { s.leaveActive with link := s.leaveActive.link.enter st } .link := by
  simp [State.enterLink, h]

@[simp] theorem Link.enter_state (k : Link) (st : LinkState) : (k.enter st).state = st := by cases st <;> rfl

@[simp] theorem State.enterLink_state (s : State) (st : LinkState) : (s.enterLink st).link.state = st := by
  simp [State.enterLink]

theorem State.enterLinkNoticed_eq (s : State) (st : LinkState) : s.enterLinkNoticed st =
    (s.enterLink st).publish .link (.notice .linkState st.code s.link.state.code) := rfl

/-- Leaving ACTIVE reads nothing of the link monitor, and sets EXPECT and width alone. -/
theorem State.leaveActive_of_link (s : State) (k : Link) :
    State.leaveActive { s with link := k } = { s.leaveActive with link := k.left } := by
  have hpublish (s : State) (n : StringNo) (c : TrackKind) :
      State.publishTrack { s with link := k } n c = { s.publishTrack n c with link := k } := by
    simp only [State.publishTrack]
    split <;> rfl
  have hmuted (s : State) (n : StringNo) :
      State.enterMuted { s with link := k } n .link = { s.enterMuted n .link with link := k } := by
    simp only [State.enterMuted, hpublish]
    split <;> rfl
  have hall : State.muteAll { s with link := k } = { s.muteAll with link := k } := by
    simp only [State.muteAll, State.forStrings, StringNo.all, List.foldl, hmuted]
  have hfail (t : State) (l m : Link) : State.failLearn { t with link := l } .link =
      { State.failLearn { t with link := m } .link with link := l } := by
    simp only [State.failLearn]
    split <;> rfl
  rw [State.leaveActive_eq, State.leaveActive_eq, hall]
  generalize s.muteAll = m
  exact hfail m k.left s.link.left

/-! ### Presence (R18, R19, R23, R24) -/

theorem exec_presenceBecomesTrue (s : State) :
    exec .presenceBecomesTrue s = .next (s.finishSet.holdEnd true) := rfl

theorem exec_presenceBecomesFalse (s : State) :
    exec .presenceBecomesFalse s = .next (s.finishSet.holdEnd false) := rfl

/-- The hold time of a level that the pin and the candidate have and the presence has not. -/
theorem Link.presenceWaits_iff (k : Link) (level : Bool) : k.presenceWaits level = true ↔
    k.candidate = level ∧ k.presPin = level ∧ k.presence ≠ level := by
  simp [Link.presenceWaits, and_assoc]

theorem presChange : Claims.PresChange := by
  intro level s h
  have hexec : exec (.presChange level) s =
      .next { s.finishSet with link := s.finishSet.link.readPres level } := rfl
  rw [hexec, State.finishSet_of_settled h]
  rfl

theorem presenceBecomesTrue : Claims.PresenceBecomesTrue := by
  intro s h hpin hcand hpres
  have hwaits : s.link.presenceWaits true = true :=
    (s.link.presenceWaits_iff true).mpr ⟨hcand, hpin, by simp [hpres]⟩
  rw [exec_presenceBecomesTrue, State.finishSet_of_settled h, State.holdEnd, if_pos hwaits, if_pos rfl,
    State.presenceTrue]
  by_cases ha : s.link.state = .absent
  · have hne : (s.debounce true).link.state ≠ .active := by simp [State.debounce, ha]
    simp only [if_pos ha, State.enterLink_of_not_active _ hne]
    rfl
  · simp only [if_neg ha]
    rfl

/-- The row of a presence that ends, once the hold time has been kept. -/
theorem exec_presenceBecomesFalse_of_waits {s : State} (h : s.settled = true) (hpin : s.link.presPin = false)
    (hcand : s.link.candidate = false) (hpres : s.link.presence = true) :
    exec .presenceBecomesFalse s = .next s.presenceFalse := by
  have hwaits : s.link.presenceWaits false = true :=
    (s.link.presenceWaits_iff false).mpr ⟨hcand, hpin, by simp [hpres]⟩
  rw [exec_presenceBecomesFalse, State.finishSet_of_settled h, State.holdEnd, if_pos hwaits]
  rfl

theorem presenceBecomesFalse : Claims.PresenceBecomesFalse := by
  intro s h hpin hcand hpres hactive
  have habsent : (s.debounce false).enterLinkNoticed .absent =
      (State.raiseBoth { s with link := { s.link with
          presence := false, holdMs := 20, state := .absent, supply := false, delayMs := none,
          progress := 0 } } .link).publish .link (.notice .linkState 1 s.link.state.code) := by
    rw [State.enterLinkNoticed_eq, State.enterLink_of_not_active (s := s.debounce false) _ hactive]
    rfl
  rw [exec_presenceBecomesFalse_of_waits h hpin hcand hpres, State.presenceFalse, habsent]
  cases hs : s.link.state with
  | disabled | absent => rfl
  | powering | settling | overload => simp
  | active => exact absurd hs hactive

/-- The link goes from ACTIVE to ABSENT because the presence has ended (R24). -/
def State.lostPresence (s : State) : State := (s.debounce false).enterLinkNoticed .absent

theorem State.lostPresence_eq {s : State} (h : s.link.state = .active) : s.lostPresence =
    (State.raiseBoth { s.leaveActive with link := { s.leaveActive.link with
      state := .absent, supply := false, delayMs := none, progress := 0, presence := false, holdMs := 20 } }
      .link).publish .link (.notice .linkState 1 4) := by
  have hleave : (s.debounce false).leaveActive = { s.leaveActive with link := (s.debounce false).link.left } :=
    s.leaveActive_of_link _
  have hcode : (s.debounce false).link.state.code = 4 := congrArg LinkState.code h
  rw [State.lostPresence, State.enterLinkNoticed_eq, State.enterLink_of_active (s := s.debounce false) _ h, hleave, hcode,
    State.leaveActive_link]
  generalize s.leaveActive = u
  rfl

theorem State.presenceFalse_of_active {s : State} (h : s.link.state = .active) :
    s.presenceFalse = if s.link.expect then s.lostPresence else s.lostPresence.surprise s.link.width := by
  simp only [State.presenceFalse, h]
  rfl

theorem State.lostPresence_flag {s : State} (h : s.link.state = .active) (p : Port) {f : Flag}
    (hf : f ≠ .learnDone) : f.isSet (s.lostPresence.ports.get p).flags =
      (f.isSet (s.ports.get p).flags || decide (f = .link)) := by
  rw [State.lostPresence_eq h, State.publish_ports, State.raiseBoth_port, Flag.isSet_raiseIn,
    ← s.leaveActive_flag p hf]

theorem State.lostPresence_waiting {s : State} (h : s.link.state = .active) (p : Port) :
    (s.lostPresence.streams.get p).waiting = (s.leaveActive.streams.get p).waiting ++
      [⟨.link, s.siu.stamp, s.phase, .notice .linkState 1 4⟩] := by
  rw [State.lostPresence_eq h, State.publish_stream]
  simp

theorem State.surprise_link (s : State) (w : Nat) :
    (s.surprise w).link = { s.link with linkCounter := s.link.linkCounter + 1 } := rfl

theorem State.surprise_flag (s : State) (w : Nat) (p : Port) (f : Flag) :
    f.isSet ((s.surprise w).ports.get p).flags = (f.isSet (s.ports.get p).flags || decide (f = .fault)) := by
  rw [← Flag.isSet_raiseIn]
  cases p <;> rfl

theorem State.surprise_waiting (s : State) (w : Nat) (p : Port) :
    ((s.surprise w).streams.get p).waiting = (s.streams.get p).waiting ++
      [⟨.link, s.siu.stamp, s.phase, .notice .surpriseLoss w 0⟩] := by
  cases p <;> rfl

theorem surpriseLoss : Claims.SurpriseLoss := by
  intro s h hpin hcand hpres hactive
  refine ⟨s.presenceFalse, exec_presenceBecomesFalse_of_waits h hpin hcand hpres, ?_⟩
  have hflag (p : Port) (f : Flag) := s.lostPresence_flag hactive p (f := f)
  have hkeeps : s.lostPresence.trackers = s.leaveActive.trackers ∧
      s.lostPresence.learn = s.leaveActive.learn ∧ s.lostPresence.siu = s.siu ∧
      s.lostPresence.cond = s.cond ∧ s.lostPresence.store = s.store ∧ s.lostPresence.phase = s.phase := by
    simp [State.lostPresence_eq hactive]
  have hlink : s.lostPresence.link = { s.leaveActive.link with
      state := .absent, supply := false, delayMs := none, progress := 0, presence := false,
      holdMs := 20 } := by
    simp [State.lostPresence_eq hactive]
  obtain ⟨htrackers, hlearn, hsiu, hcond, hstore, hphase⟩ := hkeeps
  rw [State.presenceFalse_of_active hactive]
  cases he : s.link.expect with
  | true =>
    refine ⟨?_, htrackers, hlearn, hsiu, hcond, hstore, fun p => ⟨?_, ?_⟩, fun p => ?_⟩
    · rw [if_pos rfl, hlink, State.leaveActive_link]
      rfl
    · simp [hflag p .link]
    · simp [hflag p .fault]
    · simp [State.lostPresence_waiting hactive p]
  | false =>
    obtain ⟨ksiu, kcond, ktrackers, kstore, klearn, -, -⟩ := s.lostPresence.surprise_keeps s.link.width
    refine ⟨?_, ktrackers.trans htrackers, klearn.trans hlearn, ksiu.trans hsiu, kcond.trans hcond,
      kstore.trans hstore, fun p => ⟨?_, ?_⟩, fun p => ?_⟩
    · rw [if_neg (by simp), State.surprise_link, hlink, State.leaveActive_link]
      rfl
    · simp [State.surprise_flag, hflag p .link]
    · simp [State.surprise_flag]
    · simp [State.surprise_waiting, State.lostPresence_waiting hactive p, hsiu, hphase]

/-- Settles O12: the pin, and the presence that begins or ends outside ACTIVE and in it. -/
theorem presenceEvents : Obligations.PresenceEvents :=
  ⟨presChange, presenceBecomesTrue, presenceBecomesFalse, surpriseLoss⟩

/-! ### The power-up delay and over-current (R20, R26) -/

theorem exec_powerUpDelayEnd (s : State) : exec .powerUpDelayEnd s = .next s.finishSet.powerUpEnd := rfl

theorem exec_overCurrent (s : State) : exec .overCurrent s = .next s.finishSet.overCurrent := rfl

theorem powerUpDelayEnds : Claims.PowerUpDelayEnds := by
  intro s h
  rw [exec_powerUpDelayEnd, State.finishSet_of_settled h, State.powerUpEnd]
  by_cases hp : s.link.state = .powering
  · rw [if_pos hp, if_pos hp, State.enterLink_of_not_active _ (by simp [hp])]
    rfl
  · rw [if_neg hp, if_neg hp]

theorem LinkState.supplied_iff (st : LinkState) :
    st.supplied = true ↔ st = .powering ∨ st = .settling ∨ st = .active := by
  cases st <;> decide

theorem overCurrent : Claims.OverCurrent := by
  intro s h
  rw [exec_overCurrent, State.finishSet_of_settled h, State.overCurrent]
  simp only [← LinkState.supplied_iff]
  split
  · rw [State.enterLink]
    generalize (if s.link.state = .active then s.leaveActive else s) = u
    rfl
  · rfl

/-- Settles O14: the delay ends in POWERING alone, and over-current counts while the supply is on. -/
theorem powerUpAndOverCurrent : Obligations.PowerUpAndOverCurrent :=
  ⟨powerUpDelayEnds, overCurrent⟩

/-! ### The link commands (R25, R30, R31, R32) -/

theorem exec_retrain (p : Port) (s : State) :
    exec (.retrain p) s = .next (s.frame p 1 State.doRetrain) := rfl

theorem exec_disable (p : Port) (s : State) :
    exec (.disable p) s = .next (s.frame p 1 State.doDisable) := rfl

theorem exec_enable (p : Port) (s : State) : exec (.enable p) s = .next (s.frame p 1 State.doEnable) := rfl

theorem exec_expectRemoval (p : Port) (s : State) :
    exec (.expectRemoval p) s = .next (s.frame p 1 State.doExpectRemoval) := rfl

/-- A command that is taken, behind its transition, and one that is refused. -/
theorem linkOk_eq (s : State) : linkOk s = (s, ⟨.ok, [BitVec.ofNat 8 s.link.state.code]⟩) := rfl

theorem linkRefusal_eq (s : State) : linkRefusal s = (s, ⟨.state, [BitVec.ofNat 8 s.link.state.code]⟩) := rfl

theorem retrain : Claims.Retrain := by
  intro p s h window powering
  rw [exec_retrain, State.frame_of_ready 1 _ h, State.doRetrain]
  cases hs : s.link.state with
  | active =>
    simp only [linkOk_eq, State.enterLink_of_active _ hs]
    generalize s.leaveActive = u
    rfl
  | settling =>
    simp only [linkOk_eq, Link.beginWindow, hs]
    rfl
  | overload =>
    simp only [linkOk_eq, State.enterLink_state]
    rw [State.enterLink_of_not_active _ (by simp [hs])]
    rfl
  | disabled | absent | powering => simp only [linkRefusal_eq, hs]; rfl

theorem disableEnable : Claims.DisableEnable := by
  intro p s h
  rw [exec_disable, exec_enable, State.frame_of_ready 1 _ h, State.frame_of_ready 1 _ h]
  refine ⟨?_, ?_⟩
  · rw [State.doDisable]
    by_cases hd : s.link.state = .disabled
    · rw [if_pos hd, if_pos hd, linkRefusal_eq, hd]
      rfl
    · rw [if_neg hd, if_neg hd, linkOk_eq, State.enterLinkNoticed_eq, State.publish_link,
        State.enterLink_state, State.enterLink]
      generalize (if s.link.state = .active then s.leaveActive else s) = u
      rfl
  · rw [State.doEnable]
    by_cases hd : s.link.state = .disabled
    · have hne : s.link.state ≠ .active := by simp [hd]
      rw [if_pos hd, if_neg (not_not.mpr hd), State.enterLinkNoticed_eq, State.enterLink_of_not_active _ hne,
        State.enterLink_of_not_active _ hne, hd]
      split
      · rfl
      · rfl
    · rw [if_neg hd, if_pos hd, linkRefusal_eq]

theorem expectRemoval : Claims.ExpectRemoval := by
  intro p s h
  rw [exec_expectRemoval, State.frame_of_ready 1 _ h, State.doExpectRemoval]
  by_cases ha : s.link.state = .active
  · rw [if_pos ha, if_pos ha, linkOk_eq, ha]
    rfl
  · rw [if_neg ha, if_neg ha, linkRefusal_eq]

/-- Settles O16: each command is a transition that is taken, or a refusal with the state. -/
theorem linkCommands : Obligations.LinkCommands := ⟨retrain, disableEnable, expectRemoval⟩

theorem linkCommand?_eq_none (p : Port) {b : Byte} (h : 4 ≤ b.toNat) : linkCommand? p b = none := by
  unfold linkCommand?
  split
  case h_5 => rfl
  all_goals omega

/-- The command of a LINK_CONTROL frame is the one of its subcommand (R30, R181). -/
theorem frameRow_linkControl (p : Port) (b : Byte) :
    frameRow p 0x40 [b] = (linkCommand? p b).getD (.unknownCommand p 0x40 [b]) := rfl

/-- Settles O17: the four subcommands by evaluation, every other by the row UNKNOWN_COMMAND. -/
theorem linkControlSubcommands : Obligations.LinkControlSubcommands := by
  intro p b
  refine ⟨?_, ?_, ?_, ?_, fun hb => ⟨?_, fun s h => ?_⟩⟩
  · rintro rfl
    rfl
  · rintro rfl
    rfl
  · rintro rfl
    rfl
  · rintro rfl
    rfl
  · rw [frameRow_linkControl, linkCommand?_eq_none p hb]
    rfl
  · have hbad : badSubcommand 0x40 [b] = true := by simp [badSubcommand, linkControlCode, hb]
    have hexec : exec (.unknownCommand p 0x40 [b]) s =
        .next (s.frame p 1 fun t => (t, refuse .invalid)) := if_pos hbad
    rw [hexec, State.frame_of_ready 1 _ h]
    rfl

end Sys2Proof.Machine
end

section
/-!
PROOF. The reads of a string's context, of the counters and of the floors, byte by byte (R33, R65, R98,
R181, R193).
-/

namespace Sys2Proof.Machine

theorem exec_readContext (p : Port) (x : Byte) (s : State) :
    exec (.readContext p x) s = .next (s.frame p 1 fun t => (t, contextResponse t x)) := rfl

theorem exec_readCounters (p : Port) (x y : Byte) (s : State) :
    exec (.readCounters p x y) s = .next (s.frame p 2 fun t => (t, countersResponse t x y)) := rfl

theorem exec_readFloors (p : Port) (s : State) :
    exec (.readFloors p) s = .next (s.frame p 0 fun t => (t, ok (floorsBody t))) := rfl

/-! ### The 70 bytes of a String Context -/

theorem num16_length (x : Nat) : (num16 x).length = 2 := rfl

theorem num24_length (x : Nat) : (num24 x).length = 3 := rfl

/-- A presence byte and what it covers take the same room, present or absent (R193). -/
theorem optional_map_length {α : Type} {k : Nat} (f : α → List Byte) (h : ∀ x, (f x).length = k)
    (o : Option α) : (optional k (o.map f)).length = k + 1 := by
  cases o with
  | none => simp [optional]
  | some x => simp [optional, h]

theorem WorkingCopy.bytes_length (c : WorkingCopy) : c.bytes.length = 24 := by
  simp [WorkingCopy.bytes, num16_length, num24_length, byte]

/-- The body of READ_CONTEXT has 70 bytes, whatever of the context is present (R98, R193). -/
theorem Tracker.bytes_length (t : Tracker) (k : Bank) : (t.bytes k).length = 70 := by
  have hbyte (x : Nat) : (byte x).length = 1 := rfl
  have hint (x : Int) : (int16 x).length = 2 := rfl
  have hmark (x : MarkTime) : (be32 (x.setWidth 32)).length = 4 := rfl
  have hstamp (x : Stamp) : (be24 x).length = 3 := rfl
  have hbit (b : Bool) : (bit b).length = 1 := rfl
  unfold Tracker.bytes
  simp only [historySlot, List.length_append, List.length_singleton, optional_map_length _ hbyte,
    optional_map_length _ fun m : HeldNote => hbyte m.anchor,
    optional_map_length _ fun m : HeldNote => hbyte m.velocity,
    optional_map_length _ fun m : HeldNote => hint m.pitch, optional_map_length _ num16_length,
    optional_map_length _ hmark, num16_length, WorkingCopy.bytes_length, hbyte, hstamp, hbit]

theorem contextResponse_of_none {s : State} {x : Byte} (h : StringNo.ofNumber? x.toNat = none) :
    contextResponse s x = refuse .invalid := by
  simp [contextResponse, h]

theorem contextResponse_of_some {s : State} {x : Byte} {n : StringNo}
    (h : StringNo.ofNumber? x.toNat = some n) :
    contextResponse s x = ok ((s.trackers.get n).bytes (s.store.requested.get n)) := by
  simp [contextResponse, h]

theorem readContext : Claims.ReadContext := by
  intro p s h
  refine ⟨fun x hx => ?_, fun n => ?_⟩
  · rw [exec_readContext, State.frame_of_ready 1 _ h, contextResponse_of_none (ofNumber?_eq_none x hx)]
    rfl
  · intro t c b1 b2 b3 slot body
    have hbody : t.bytes (s.store.requested.get n) = body := by
      have hnote : optional 1 (t.note.map fun m => byte m.anchor) ++
          (optional 2 (t.note.map fun m => int16 m.pitch) ++
            optional 1 (t.note.map fun m => byte m.velocity)) = (match t.note with
          | none => [0, 0, 0, 0, 0, 0, 0]
          | some h => [1] ++ b1 h.anchor ++ [1] ++ be16 (BitVec.ofInt 16 h.pitch) ++ [1] ++
              b1 h.velocity) := by
        cases t.note <;> rfl
      have htimer (o : Option Nat) :
          optional 2 (o.map num16) = match o with | none => [0, 0, 0] | some k => 1 :: b2 k := by
        cases o with
        | none => rfl
        | some k => exact congrArg (1 :: ·) (num16_eq k)
      have hlevel : optional 1 (t.levelTimer.map byte) =
          match t.levelTimer with | none => [0, 0] | some k => 1 :: b1 k := by
        cases t.levelTimer <;> rfl
      have hmark : optional 4 (t.lastMark.map fun m => be32 (m.setWidth 32)) = match t.lastMark with
          | none => [0, 0, 0, 0, 0]
          | some k => 1 :: (b1 (k.toNat / 16777216) ++ b3 k.toNat) := by
        cases t.lastMark with
        | none => rfl
        | some k => exact congrArg (1 :: ·) (be32_eq k)
      unfold Tracker.bytes
      rw [List.append_assoc (byte t.state.code), List.append_assoc (byte t.state.code),
        List.append_assoc (optional 1 _), hnote, htimer, htimer, hlevel, hmark]
      simp only [WorkingCopy.bytes, historySlot, num16_eq, num24_eq, be24_eq, ← List.append_assoc]
      rfl
    rw [exec_readContext, State.frame_of_ready 1 _ h, contextResponse_of_some (ofNumber?_number n)]
    exact ⟨hbody ▸ t.bytes_length _, congrArg (fun l => Host.Outcome.next (s.awaits p 1 .ok l)) hbody⟩

/-! ### The counters and the floors -/

theorem countersResponse_of_other (s : State) {x : Byte} (y : Byte) (h : 2 ≤ x.toNat) :
    countersResponse s x y = refuse .invalid := by
  have h0 : x ≠ 0 := by bv_omega
  have h1 : x ≠ 1 := by bv_omega
  rw [countersResponse, if_neg h0, if_neg h1]

theorem countersResponse_of_no_string (s : State) {y : Byte} (h : StringNo.ofNumber? y.toNat = none) :
    countersResponse s 0 y = refuse .invalid := by
  rw [countersResponse, if_pos rfl]
  simp only [h]

theorem countersResponse_of_no_input (s : State) {y : Byte} (h : Sin.ofNumber? y.toNat = none) :
    countersResponse s 1 y = refuse .invalid := by
  rw [countersResponse, if_neg (by decide), if_pos rfl]
  simp only [h]

theorem countersResponse_of_string (s : State) {y : Byte} {n : StringNo}
    (h : StringNo.ofNumber? y.toNat = some n) : countersResponse s 0 y =
      ok (be16 (s.cond.sat.get n) ++ be16 (s.trackers.get n).noise ++ be16 (s.trackers.get n).reject ++
        be16 (s.trackers.get n).ghost) := by
  rw [countersResponse, if_pos rfl]
  simp only [h]

theorem countersResponse_of_input (s : State) {y : Byte} {i : Sin} (h : Sin.ofNumber? y.toNat = some i) :
    countersResponse s 1 y = ok (be16 (s.siu.inputs.get i).clip ++ be16 (s.siu.inputs.get i).stuck) := by
  rw [countersResponse, if_neg (by decide), if_pos rfl]
  simp only [h]

theorem readCountersAndFloors : Claims.ReadCountersAndFloors := by
  intro p s h
  refine ⟨fun x y hxy => ?_, fun n => ?_, fun i => ?_, ?_⟩
  · have hinvalid : countersResponse s x y = refuse .invalid := by
      rcases hxy with hx | ⟨rfl, hy⟩ | ⟨rfl, hy⟩
      · exact countersResponse_of_other s y hx
      · exact countersResponse_of_no_string s (ofNumber?_eq_none y hy)
      · exact countersResponse_of_no_input s (sinOfNumber?_eq_none y hy)
    rw [exec_readCounters, State.frame_of_ready 2 _ h, hinvalid]
    rfl
  · rw [exec_readCounters, State.frame_of_ready 2 _ h, countersResponse_of_string s (ofNumber?_number n)]
    rfl
  · rw [exec_readCounters, State.frame_of_ready 2 _ h, countersResponse_of_input s (sinOfNumber?_number i)]
    rfl
  · have hfloors : floorsBody s = (Sin.all.flatMap fun i =>
          be16 (BitVec.ofNat 16 (s.link.floors.get i)) ++ [if s.link.dropped.get i then 1 else 0,
            if i.number < s.store.global.na then 1 else 0]) ++
        [BitVec.ofNat 8 s.link.state.code] ++
        be16 (BitVec.ofNat 16 (if s.link.state = .settling then s.link.progress else 0)) := by
      simp [floorsBody, num16, bit, byte, Global.analog]
    rw [exec_readFloors, State.frame_of_ready 0 _ h, hfloors]
    rfl

/-- Settles O54: each read answers what the part holds, and changes nothing of it. -/
theorem readsOfContextsAndFloors : Obligations.ReadsOfContextsAndFloors :=
  ⟨readContext, readCountersAndFloors⟩

end Sys2Proof.Machine
end

section
/-!
SUPPORT. The invariant of the link monitor in its two parts: what the link's own registers say of its state, and
what hangs on the usability of the strings; and what every operation that makes no transition keeps of it.
-/

namespace Sys2Proof.Machine

/-! ### The two parts of the invariant -/

/-- Supply, delay, window and presence are as the link state says (R17, R18, R20, R21, R24). -/
structure Link.Standing (k : Link) : Prop where
  supply : k.supply = k.state.supplied
  delay : k.delayMs.isSome = (k.state == .powering)
  window : k.progress = 0 ∨ k.state = .settling
  progress : k.progress ≤ 8192
  presence : k.state = .disabled ∨ k.presence = (k.state != .absent)

/-- Floors and window maxima are magnitudes of samples (R21, R22). -/
def Link.Bounded (k : Link) : Prop := ∀ i, k.floors.get i ≤ 32767 ∧ k.windowMax.get i ≤ 32767

/-- EXPECT, width, trackers and learn are as the usability of the strings says (R25, R28, R78, R79, R127). -/
structure State.StringsHeard (s : State) : Prop where
  expect : s.link.expect = true → s.link.state = .active
  bounded : s.link.Bounded
  width : s.link.width = s.usableCount
  heard : ∀ n, s.usable n = true ↔ (s.trackers.get n).state ≠ .muted
  target : ∀ g, s.learn.state.open? = some g → s.usable g.string = true

theorem State.linkOk_iff (s : State) : s.linkOk = true ↔ s.link.Standing ∧ s.StringsHeard := by
  have husable (n : StringNo) : (s.usable n == ((s.trackers.get n).state != .muted)) = true ↔
      (s.usable n = true ↔ (s.trackers.get n).state ≠ .muted) := by
    rw [beq_iff_eq, Bool.eq_iff_iff, bne_iff_ne]
  simp only [State.linkOk, Bool.and_eq_true, Bool.or_eq_true, beq_iff_eq, Bool.not_eq_true', decide_eq_true_eq,
    List.all_eq_true, husable, Option.all_eq_true]
  constructor
  · rintro ⟨⟨⟨⟨⟨⟨⟨⟨⟨h1, h2⟩, h3⟩, h4⟩, h5⟩, h6⟩, h7⟩, h8⟩, h9⟩, h10⟩
    exact ⟨⟨h1, h3, h4, h5, h6⟩, fun he => h2.resolve_left (by simp [he]), fun i => h7 i i.mem_all, h8,
      fun n => h9 n n.mem_all, h10⟩
  · rintro ⟨⟨h1, h3, h4, h5, h6⟩, h2, h7, h8, h9, h10⟩
    refine ⟨⟨⟨⟨⟨⟨⟨⟨⟨h1, ?_⟩, h3⟩, h4⟩, h5⟩, h6⟩, fun i _ => h7 i⟩, h8⟩, fun n _ => h9 n⟩, h10⟩
    cases he : s.link.expect with
    | false => exact .inl rfl
    | true => exact .inr (h2 he)

/-- Both parts, each where the other has been taken apart. -/
theorem State.linkOk_of {s : State} (hk : s.link.Standing) (hs : s.StringsHeard) : s.linkOk = true :=
  s.linkOk_iff.mpr ⟨hk, hs⟩

theorem State.linkOk_standing {s : State} (h : s.linkOk = true) : s.link.Standing := (s.linkOk_iff.mp h).1

theorem State.linkOk_heard {s : State} (h : s.linkOk = true) : s.StringsHeard := (s.linkOk_iff.mp h).2

/-- No string is usable outside ACTIVE (R28). -/
theorem State.usable_of_not_active {s : State} (h : s.link.state ≠ .active) (n : StringNo) :
    s.usable n = false := by
  simp [State.usable, h]

theorem State.usableCount_of_none {s : State} (h : ∀ n, s.usable n = false) : s.usableCount = 0 := by
  simp [State.usableCount, h]

/-- A change of the link monitor's registers alone that leaves those on which the strings hang. -/
theorem State.StringsHeard.of_link {s : State} (h : s.StringsHeard) {k : Link} (hs : k.state = s.link.state)
    (hd : k.dropped = s.link.dropped) (he : k.expect = s.link.expect) (hw : k.width = s.link.width)
    (hb : k.Bounded) : State.StringsHeard { s with link := k } := by
  have husable (n : StringNo) : State.usable { s with link := k } n = s.usable n :=
    State.usable_congr (s := s) (t := { s with link := k }) hs hd rfl n
  refine ⟨fun hx => hs.trans (h.expect (he ▸ hx)), hb, ?_, fun n => ?_, fun g hg => ?_⟩
  · rw [State.usableCount_congr husable]
    exact hw.trans h.width
  · rw [husable]
    exact h.heard n
  · rw [husable]
    exact h.target g hg

/-! ### What is kept where no transition is made -/

/-- The link monitor and the global record are as they were, no tracker enters or leaves MUTED, and no learn
that could be ended is new. -/
def State.LinkKept (s t : State) : Prop :=
  t.link = s.link ∧ t.store.global = s.store.global ∧
  (∀ n, (t.trackers.get n).state = .muted ↔ (s.trackers.get n).state = .muted) ∧
  ∀ g, t.learn.state.open? = some g → s.learn.state.open? = some g

theorem State.LinkKept.refl (s : State) : s.LinkKept s := ⟨rfl, rfl, fun _ => Iff.rfl, fun _ h => h⟩

theorem State.LinkKept.trans {s t u : State} (h : s.LinkKept t) (h' : t.LinkKept u) : s.LinkKept u := by
  obtain ⟨h1, h2, h3, h4⟩ := h
  obtain ⟨k1, k2, k3, k4⟩ := h'
  exact ⟨k1.trans h1, k2.trans h2, fun n => (k3 n).trans (h3 n), fun g hg => h4 g (k4 g hg)⟩

theorem State.LinkKept.of_eq {s t : State} (hl : t.link = s.link) (hg : t.store.global = s.store.global)
    (ht : t.trackers = s.trackers) (he : t.learn = s.learn) : s.LinkKept t :=
  ⟨hl, hg, fun n => by rw [ht], fun g => by rw [he]; exact id⟩

theorem State.LinkKept.usable {s t : State} (h : s.LinkKept t) (n : StringNo) : t.usable n = s.usable n := by
  obtain ⟨hl, hg, -, -⟩ := h
  exact State.usable_congr (by rw [hl]) (by rw [hl]) hg n

theorem State.LinkKept.heard {s t : State} (h : s.LinkKept t) (hs : s.StringsHeard) : t.StringsHeard := by
  obtain ⟨hl, -, ht, he⟩ := id h
  refine ⟨by rw [hl]; exact hs.expect, by rw [hl]; exact hs.bounded, ?_, fun n => ?_, fun g hg => ?_⟩
  · rw [State.usableCount_congr h.usable, hl, hs.width]
  · rw [h.usable, hs.heard, Ne, Ne, ht]
  · rw [h.usable]
    exact hs.target g (he g hg)

theorem State.LinkKept.linkOk {s t : State} (h : s.LinkKept t) (hs : s.linkOk = true) : t.linkOk = true :=
  State.linkOk_of (h.1 ▸ State.linkOk_standing hs) (h.heard (State.linkOk_heard hs))

theorem State.LinkKept.not_muted {s t : State} (h : s.LinkKept t) {n : StringNo}
    (hn : (s.trackers.get n).state ≠ .muted) : (t.trackers.get n).state ≠ .muted :=
  (h.2.2.1 n).not.mpr hn

theorem State.forStrings_linkKept {f : StringNo → State → State} (h : ∀ n t, State.LinkKept t (f n t))
    (s : State) : s.LinkKept (s.forStrings f) :=
  State.forStrings_inv (P := s.LinkKept) (fun n _ ht => ht.trans (h n _)) (.refl s)

/-! ### The Learn Engine -/

theorem State.updPort_linkKept (s : State) (p : Port) (f : PortIf → PortIf) : s.LinkKept (s.updPort p f) :=
  .of_eq rfl rfl rfl rfl

theorem State.raise_linkKept (s : State) (p : Port) (f : Flag) : s.LinkKept (s.raise p f) :=
  s.updPort_linkKept p _

theorem State.raiseBoth_linkKept (s : State) (f : Flag) : s.LinkKept (s.raiseBoth f) := .of_eq rfl rfl rfl rfl

theorem State.publish_linkKept (s : State) (m : Maker) (u : Publication) : s.LinkKept (s.publish m u) :=
  .of_eq rfl rfl rfl rfl

theorem State.linkNotice_linkKept (s : State) (c : NoticeCode) (a b : Nat) :
    s.LinkKept (s.linkNotice c a b) := .of_eq rfl rfl rfl rfl

/-- What an ending leaves is IDLE, where no learn can be ended. -/
theorem State.endLearn_linkKept (s : State) (g : Target) (r : LastResult) : s.LinkKept (s.endLearn g r) :=
  ⟨rfl, rfl, fun _ => Iff.rfl, nofun⟩

theorem State.failLearn_linkKept (s : State) (r : LearnReason) : s.LinkKept (s.failLearn r) := by
  unfold State.failLearn
  split
  · exact .refl s
  · exact s.endLearn_linkKept _ _

theorem State.learnOnset_linkKept (s : State) (n : StringNo) : s.LinkKept (s.learnOnset n) := by
  unfold State.learnOnset
  split
  · exact .refl s
  · next t ho =>
    split
    · split
      · split
        · exact ⟨rfl, rfl, fun _ => Iff.rfl, fun g hg => ho.trans hg⟩
        · exact .refl s
      · exact .refl s
    · exact s.failLearn_linkKept _

theorem State.learnDropped_linkKept (s : State) (n : StringNo) : s.LinkKept (s.learnDropped n) := by
  unfold State.learnDropped
  split
  · exact .refl s
  · split
    · exact s.failLearn_linkKept _
    · exact .refl s

theorem State.learnProfileCommit_linkKept (s : State) (k : Bank) (n : StringNo) :
    s.LinkKept (s.learnProfileCommit k n) := by
  unfold State.learnProfileCommit
  split
  · exact .refl s
  · split
    · exact s.failLearn_linkKept _
    · exact .refl s

theorem State.learnGlobalCommit_linkKept (s : State) (old new : Global) :
    s.LinkKept (s.learnGlobalCommit old new) := by
  unfold State.learnGlobalCommit
  split
  · exact .refl s
  · split
    · exact s.failLearn_linkKept _
    · exact .refl s

/-- A set of a capture keeps its target (R123). -/
theorem State.tapSample_linkKept (s : State) (d : Eight (Option Int)) : s.LinkKept (s.tapSample d) := by
  unfold State.tapSample State.learnTaps
  split
  · exact .refl s
  · dsimp only
    split
    · next hl => exact ⟨rfl, rfl, fun _ => Iff.rfl, fun g hg => by rw [hl]; exact hg⟩
    · exact .refl s

theorem State.captureEnd_linkKept (s : State) : s.LinkKept s.captureEnd := by
  unfold State.captureEnd
  split
  · split
    · split
      · exact s.endLearn_linkKept _ _
      · exact ⟨rfl, rfl, fun _ => Iff.rfl, nofun⟩
    · exact .refl s
  · exact .refl s

theorem State.takeLearnCommit_linkKept (s : State) : s.LinkKept s.takeLearnCommit := by
  unfold State.takeLearnCommit
  split
  · dsimp only
    split
    · exact ⟨rfl, rfl, fun _ => Iff.rfl, nofun⟩
    · exact s.endLearn_linkKept _ _
  · exact .refl s

theorem State.armEnd_linkKept (s : State) : s.LinkKept s.armEnd := by
  unfold State.armEnd
  split
  · exact s.failLearn_linkKept _
  · exact .refl s

theorem State.tickArm_linkKept (s : State) : s.LinkKept s.tickArm := by
  unfold State.tickArm
  split
  · next t ms hl =>
    split
    · exact s.armEnd_linkKept
    · exact ⟨rfl, rfl, fun _ => Iff.rfl, fun g hg => by rw [hl]; exact hg⟩
  · exact .refl s

/-! ### The trackers -/

/-- A change of one tracker that neither enters nor leaves MUTED. -/
theorem State.updTracker_linkKept {s : State} {n : StringNo} {f : Tracker → Tracker}
    (h : (f (s.trackers.get n)).state = .muted ↔ (s.trackers.get n).state = .muted) :
    s.LinkKept (s.updTracker n f) := by
  refine ⟨rfl, rfl, fun m => ?_, fun _ hg => hg⟩
  rw [State.updTracker_get]
  by_cases hm : m = n
  · rw [if_pos hm, hm, h]
  · rw [if_neg hm]

/-- A tracker outside MUTED goes to another such state. -/
theorem State.updTracker_linkKept_of_ne {s : State} {n : StringNo} {f : Tracker → Tracker}
    (h : (s.trackers.get n).state ≠ .muted) (hf : (f (s.trackers.get n)).state ≠ .muted) :
    s.LinkKept (s.updTracker n f) :=
  State.updTracker_linkKept (iff_of_false hf h)

theorem State.publishTrack_linkKept (s : State) (n : StringNo) (k : TrackKind) :
    s.LinkKept (s.publishTrack n k) := .of_eq (by simp) (by simp) (by simp) (by simp)

theorem State.takeCopy_linkKept (s : State) (n : StringNo) : s.LinkKept (s.takeCopy n) :=
  State.updTracker_linkKept Iff.rfl

theorem State.adoptBank_linkKept (s : State) (n : StringNo) : s.LinkKept (s.adoptBank n) := by
  unfold State.adoptBank
  dsimp only
  split
  · exact .refl s
  · exact (State.updTracker_linkKept (s := s) (n := n) Iff.rfl).trans (State.publish_linkKept _ _ _)

theorem State.enterSilent_linkKept {s : State} {n : StringNo} (h : (s.trackers.get n).state ≠ .muted) :
    s.LinkKept (s.enterSilent n) := by
  obtain ⟨hother, hsame, -⟩ := s.enterSilent_spec n
  refine ⟨by simp, by simp, fun m => ?_, by simp⟩
  by_cases hm : m = n
  · rw [hm, hsame]
    exact iff_of_false (by simp [State.silentEntry]) h
  · rw [hother m hm]

theorem State.beginOnset_linkKept {s : State} {n : StringNo} (peak : Nat)
    (h : (s.trackers.get n).state ≠ .muted) : s.LinkKept (s.beginOnset n peak) := by
  have hentered : s.LinkKept (s.updTracker n fun t => { t with
      state := .onset, note := none, releaseTimer := none, levelTimer := none, onsetStamp := s.siu.stamp }) :=
    State.updTracker_linkKept_of_ne h nofun
  have hcopied := (hentered.trans (State.adoptBank_linkKept _ n)).trans (State.takeCopy_linkKept _ n)
  exact (hcopied.trans (State.updTracker_linkKept Iff.rfl)).trans (State.learnOnset_linkKept _ n)

theorem State.ghost_linkKept {s : State} {n : StringNo} (h : (s.trackers.get n).state ≠ .muted) :
    s.LinkKept (s.ghost n) := by
  have hcount : s.LinkKept (s.updTracker n fun t => { t with ghost := t.ghost + 1 }) :=
    State.updTracker_linkKept Iff.rfl
  exact hcount.trans (State.enterSilent_linkKept (hcount.not_muted h))

theorem State.acceptIf_linkKept {s : State} {n : StringNo} (v : Option Int)
    (h : (s.trackers.get n).state ≠ .muted) : s.LinkKept (s.acceptIf n v) := by
  unfold State.acceptIf State.accept
  split
  · exact .refl s
  · dsimp only
    split
    · exact .refl s
    · split
      · exact (State.updTracker_linkKept_of_ne h (by simp)).trans (State.publishTrack_linkKept _ n _)
      · exact (State.updTracker_linkKept (s := s) (n := n) Iff.rfl).trans (State.publishTrack_linkKept _ n _)

theorem State.repick_linkKept {s : State} {n : StringNo} (k : Nat) (h : (s.trackers.get n).state ≠ .muted) :
    s.LinkKept (s.repick n k) := by
  have hend := s.publishTrack_linkKept n (.ended .repick)
  exact hend.trans (State.beginOnset_linkKept k (hend.not_muted h))

theorem State.sampleOnset_linkKept {s : State} {n : StringNo} (kept : Option (Nat × Nat)) (v : Option Int)
    (h : (s.trackers.get n).state ≠ .muted) : s.LinkKept (s.sampleOnset n kept v) := by
  unfold State.sampleOnset
  dsimp only
  generalize ht : s.updTracker n _ = t
  have hst : s.LinkKept t := ht ▸ State.updTracker_linkKept Iff.rfl
  have hn := hst.not_muted h
  split
  · exact (hst.trans (State.updTracker_linkKept_of_ne hn (by simp))).trans (State.publishTrack_linkKept _ n .start)
  · split
    · exact hst.trans (State.ghost_linkKept hn)
    · exact hst

theorem State.sampleSounding_linkKept {s : State} {n : StringNo} (kept : Option (Nat × Nat)) (v : Option Int)
    (h : (s.trackers.get n).state ≠ .muted) : s.LinkKept (s.sampleSounding n kept v) := by
  unfold State.sampleSounding
  split
  · exact State.repick_linkKept _ h
  · have haccept := State.acceptIf_linkKept v h
    have hn := haccept.not_muted h
    refine (haccept.trans (State.updTracker_linkKept_of_ne hn ?_)).trans (State.updTracker_linkKept Iff.rfl)
    split
    · simp
    · exact hn

theorem State.sampleReleasing_linkKept {s : State} {n : StringNo} (kept : Option (Nat × Nat))
    (v : Option Int) (h : (s.trackers.get n).state ≠ .muted) : s.LinkKept (s.sampleReleasing n kept v) := by
  unfold State.sampleReleasing
  split
  · exact State.repick_linkKept _ h
  · have haccept := State.acceptIf_linkKept v h
    have hn := haccept.not_muted h
    dsimp only
    generalize ht : (s.acceptIf n v).updTracker n _ = t
    have hst : s.LinkKept t := by
      refine haccept.trans (ht ▸ State.updTracker_linkKept_of_ne hn ?_)
      split
      · split
        · simp
        · exact hn
      · exact hn
    split
    · exact hst
    · exact hst.trans (State.updTracker_linkKept Iff.rfl)

/-- A measured tracker is in the state in which it was. -/
theorem Tracker.measure_state (t : Tracker) (rate : Rate) (o : Int) (stamp : Stamp) (y : Int) :
    (t.measure rate o stamp y).tracker.state = t.state := by
  have hmark (t : Tracker) : (t.stageMark stamp y).1.state = t.state := by
    unfold Tracker.stageMark
    dsimp only
    repeat' split
    all_goals rfl
  have hstall (t : Tracker) (k : Bool) : (t.stageStall k).state = t.state := by
    unfold Tracker.stageStall
    split <;> rfl
  have harm (t : Tracker) : (t.stageArm y).state = t.state := by
    unfold Tracker.stageArm
    split <;> rfl
  have hvote (t : Tracker) (e : Bool) : (t.stageVote rate o e).1.state = t.state := by
    rw [Tracker.stageVote_eq]
  simp only [Tracker.measure, hvote, harm, hstall, hmark]

/-- A sample neither mutes a tracker nor wakes a muted one (R77). -/
theorem State.trackerSample_linkKept (s : State) (n : StringNo) (y : Int) :
    s.LinkKept (s.trackerSample n y) := by
  unfold State.trackerSample
  dsimp only
  split
  · exact State.updTracker_linkKept (by simp)
  · next hm =>
    generalize hr : (s.trackers.get n).applyClears.measure _ _ _ _ = r
    have hstate : r.tracker.state = (s.trackers.get n).state := by
      rw [← hr, Tracker.measure_state, Tracker.applyClears_state]
    have hn : (s.trackers.get n).state ≠ .muted := by simpa using hm
    have hmeasured : s.LinkKept (s.updTracker n fun _ => r.tracker) :=
      State.updTracker_linkKept (by rw [hstate])
    have hn' := hmeasured.not_muted hn
    split
    · exact hmeasured
    · split
      · exact hmeasured.trans (State.beginOnset_linkKept _ hn')
      · exact hmeasured
    · exact hmeasured.trans (State.sampleOnset_linkKept _ _ hn')
    · exact hmeasured.trans (State.sampleSounding_linkKept _ _ hn')
    · exact hmeasured.trans (State.sampleReleasing_linkKept _ _ hn')

theorem State.sampleTrackers_linkKept (s : State) (turn : StringNo → Bool) (v : Six (Option Int)) :
    s.LinkKept (s.sampleTrackers turn v) :=
  State.forStrings_linkKept (fun n t => by
    split
    · exact t.trackerSample_linkKept n _
    · exact .refl t) s

/-! ### The events of the trackers -/

theorem State.takeStall_linkKept (s : State) (n : StringNo) : s.LinkKept (s.takeStall n) := by
  unfold State.takeStall
  split
  · exact State.updTracker_linkKept Iff.rfl
  · exact .refl s

theorem State.takeTimeout_linkKept (s : State) (n : StringNo) : s.LinkKept (s.takeTimeout n) := by
  unfold State.takeTimeout
  split
  · next h =>
    refine State.ghost_linkKept fun hm => ?_
    simp [Tracker.timeoutDue, hm] at h
  · exact .refl s

theorem State.takeRelease_linkKept (s : State) (n : StringNo) : s.LinkKept (s.takeRelease n) := by
  unfold State.takeRelease
  split
  · next h =>
    have hend := s.publishTrack_linkKept n (.ended .release)
    refine hend.trans (State.enterSilent_linkKept (hend.not_muted fun hm => ?_))
    simp [Tracker.releaseDue, hm] at h
  · exact .refl s

theorem State.takeLevel_linkKept (s : State) (n : StringNo) : s.LinkKept (s.takeLevel n) := by
  unfold State.takeLevel
  split
  · exact (s.publishTrack_linkKept n _).trans (State.updTracker_linkKept Iff.rfl)
  · exact .refl s

theorem State.finishTrackers_linkKept (s : State) : s.LinkKept s.finishTrackers :=
  State.forStrings_linkKept (fun n t => (((t.takeStall_linkKept n).trans (State.takeTimeout_linkKept _ n)).trans
    (State.takeRelease_linkKept _ n)).trans (State.takeLevel_linkKept _ n)) s

theorem State.clearHistories_linkKept (s : State) : s.LinkKept s.clearHistories :=
  State.forStrings_linkKept (fun _ _ => State.updTracker_linkKept Iff.rfl) s

theorem State.requestBank_linkKept (s : State) (k : Bank) (n : StringNo) :
    s.LinkKept (s.requestBank k n) := by
  have hrequest (t : State) : t.LinkKept (t.takeRequest n) := by
    unfold State.takeRequest
    dsimp only
    split
    · exact .refl t
    · split
      · exact (t.adoptBank_linkKept n).trans (State.takeCopy_linkKept _ n)
      · exact t.adoptBank_linkKept n
      · exact .refl t
  exact State.LinkKept.trans (.of_eq rfl rfl rfl rfl) (hrequest _)

end Sys2Proof.Machine
end

section
/-!
SUPPORT. The invariant of the link monitor over its own operations: the transitions, the drop of an input, the
settle window and its end, and an accepted global record.
-/

namespace Sys2Proof.Machine

/-! ### Outside ACTIVE (R17, R28) -/

/-- Nothing of ACTIVE is left: no EXPECT, no width, every tracker MUTED, and no learn that can be ended. -/
structure State.Unheard (s : State) : Prop where
  expect : s.link.expect = false
  bounded : s.link.Bounded
  width : s.link.width = 0
  muted : ∀ n, (s.trackers.get n).state = .muted
  closed : s.learn.state.open? = none

theorem State.StringsHeard.unheard {s : State} (h : s.StringsHeard) (hs : s.link.state ≠ .active) :
    s.Unheard := by
  have hnone := State.usable_of_not_active hs
  refine ⟨?_, h.bounded, ?_, fun n => ?_, ?_⟩
  · cases he : s.link.expect with
    | false => rfl
    | true => exact absurd (h.expect he) hs
  · rw [h.width, State.usableCount_of_none hnone]
  · have hn := (h.heard n).not
    rwa [hnone, not_not, Bool.false_eq_true, not_false_eq_true, true_iff] at hn
  · cases ho : s.learn.state.open? with
    | none => rfl
    | some g => exact absurd (h.target g ho) (by simp [hnone])

theorem State.Unheard.heard {s : State} (h : s.Unheard) (hs : s.link.state ≠ .active) : s.StringsHeard := by
  have hnone := State.usable_of_not_active hs
  refine ⟨fun he => ?_, h.bounded, ?_, fun n => ?_, fun g hg => ?_⟩
  · rw [h.expect] at he
    cases he
  · rw [h.width, State.usableCount_of_none hnone]
  · simp [hnone, h.muted n]
  · rw [h.closed] at hg
    cases hg

theorem State.StringsHeard.leaveActive {s : State} (h : s.StringsHeard) : s.leaveActive.Unheard := by
  have hlink := s.leaveActive_link
  exact ⟨by rw [hlink]; rfl, by rw [hlink]; exact h.bounded, by rw [hlink]; rfl,
    fun n => by rw [State.leaveActive_tracker, Tracker.muted_state], s.leaveActive_open⟩

/-! ### Transitions -/

theorem Link.enter_standing {k : Link} {st : LinkState} (h : st = .disabled ∨ k.presence = (st != .absent)) :
    (k.enter st).Standing := by
  cases st <;> exact ⟨rfl, rfl, .inl rfl, Nat.zero_le _, h⟩

theorem Link.Bounded.beginWindow {k : Link} (h : k.Bounded) : k.beginWindow.Bounded := fun i =>
  ⟨(h i).1, by simp [Link.beginWindow]⟩

theorem Link.Bounded.enter {k : Link} (h : k.Bounded) (st : LinkState) : (k.enter st).Bounded := by
  cases st with
  | settling => exact Link.Bounded.beginWindow (k := { k with
      state := .settling, supply := true, delayMs := none, progress := 0 }) h
  | disabled | absent | powering | active | overload => exact h

theorem State.Unheard.enter {s : State} (h : s.Unheard) (st : LinkState) :
    State.Unheard (State.raiseBoth { s with link := s.link.enter st } .link) := by
  refine ⟨?_, h.bounded.enter st, ?_, h.muted, h.closed⟩
  · cases st <;> exact h.expect
  · cases st <;> exact h.width

/-- A transition out of whatever state leaves nothing of ACTIVE behind it. -/
theorem State.StringsHeard.enterLink {s : State} (h : s.StringsHeard) (st : LinkState) :
    (s.enterLink st).Unheard := by
  by_cases ha : s.link.state = .active
  · rw [State.enterLink_of_active st ha]
    exact h.leaveActive.enter st
  · rw [State.enterLink_of_not_active st ha]
    exact (h.unheard ha).enter st

theorem State.enterLink_standing {s : State} {st : LinkState}
    (h : st = .disabled ∨ s.link.presence = (st != .absent)) : (s.enterLink st).link.Standing := by
  by_cases ha : s.link.state = .active
  · rw [State.enterLink_of_active st ha, State.leaveActive_link]
    exact Link.enter_standing h
  · rw [State.enterLink_of_not_active st ha]
    exact Link.enter_standing h

/-- A transition to any state but ACTIVE, in a part whose strings are heard as they must be, where the presence
is that of the state. -/
theorem State.StringsHeard.linkOk_enterLink {s : State} (h : s.StringsHeard) {st : LinkState}
    (hst : st ≠ .active) (hp : st = .disabled ∨ s.link.presence = (st != .absent)) :
    (s.enterLink st).linkOk = true :=
  State.linkOk_of (State.enterLink_standing hp) ((h.enterLink st).heard (by rwa [State.enterLink_state]))

theorem State.StringsHeard.linkOk_enterLinkNoticed {s : State} (h : s.StringsHeard) {st : LinkState}
    (hst : st ≠ .active) (hp : st = .disabled ∨ s.link.presence = (st != .absent)) :
    (s.enterLinkNoticed st).linkOk = true :=
  (State.publish_linkKept _ _ _).linkOk (h.linkOk_enterLink hst hp)

/-- The presence is there in every state but DISABLED and ABSENT (R18, R24). -/
theorem State.linkOk_presence {s : State} (h : s.linkOk = true) (hd : s.link.state ≠ .disabled)
    (ha : s.link.state ≠ .absent) : s.link.presence = true := by
  rw [(State.linkOk_standing h).presence.resolve_left hd]
  simpa using ha

/-! ### Presence, power-up delay and over-current -/

theorem State.StringsHeard.debounce {s : State} (h : s.StringsHeard) (level : Bool) :
    (s.debounce level).StringsHeard :=
  h.of_link rfl rfl rfl rfl h.bounded

/-- The hold time of the presence ends where the presence plays no part: in DISABLED (R18). -/
theorem State.linkOk_debounce_of_disabled {s : State} (h : s.linkOk = true) (level : Bool)
    (hd : s.link.state = .disabled) : (s.debounce level).linkOk = true := by
  obtain ⟨hsupply, hdelay, hwindow, hprogress, -⟩ := State.linkOk_standing h
  exact State.linkOk_of ⟨hsupply, hdelay, hwindow, hprogress, .inl hd⟩ ((State.linkOk_heard h).debounce level)

theorem State.linkOk_presenceTrue {s : State} (h : s.linkOk = true) (hp : s.link.presence = false) :
    s.presenceTrue.linkOk = true := by
  have hheard := (State.linkOk_heard h).debounce true
  unfold State.presenceTrue
  dsimp only
  split
  · exact hheard.linkOk_enterLink (by decide) (.inr rfl)
  · next ha =>
    refine State.linkOk_debounce_of_disabled h true ?_
    by_contra hd
    rw [State.linkOk_presence h hd ha] at hp
    cases hp

theorem State.surprise_linkOk {s : State} (w : Nat) (h : s.linkOk = true) : (s.surprise w).linkOk = true := by
  have hnoticed : ((s.linkNotice .surpriseLoss w 0).raiseBoth .fault).linkOk = true :=
    ((s.linkNotice_linkKept _ _ _).trans (State.raiseBoth_linkKept _ _)).linkOk h
  obtain ⟨hsupply, hdelay, hwindow, hprogress, hpresence⟩ := State.linkOk_standing hnoticed
  have hheard := State.linkOk_heard hnoticed
  exact State.linkOk_of (s := s.surprise w) ⟨hsupply, hdelay, hwindow, hprogress, hpresence⟩
    (hheard.of_link rfl rfl rfl rfl hheard.bounded)

theorem State.linkOk_presenceFalse {s : State} (h : s.linkOk = true) (hp : s.link.presence = true) :
    s.presenceFalse.linkOk = true := by
  have habsent : ((s.debounce false).enterLinkNoticed .absent).linkOk = true :=
    ((State.linkOk_heard h).debounce false).linkOk_enterLinkNoticed (by decide) (.inr rfl)
  unfold State.presenceFalse
  cases hs : s.link.state with
  | disabled => exact State.linkOk_debounce_of_disabled h false hs
  | absent =>
    have hpresence := (State.linkOk_standing h).presence
    rw [hs, hp] at hpresence
    simp at hpresence
  | powering | settling | overload => exact habsent
  | active =>
    dsimp only
    split
    · exact habsent
    · exact State.surprise_linkOk _ habsent

theorem State.linkOk_holdEnd {s : State} (h : s.linkOk = true) (level : Bool) :
    (s.holdEnd level).linkOk = true := by
  unfold State.holdEnd
  split
  · next hw =>
    obtain ⟨-, -, hp⟩ := (Link.presenceWaits_iff _ _).mp hw
    cases level with
    | true => exact State.linkOk_presenceTrue h (by simpa using hp)
    | false => exact State.linkOk_presenceFalse h (by simpa using hp)
  · exact h

/-- A change of pin, candidate or hold time alone. -/
theorem State.linkOk_readPres {s : State} (h : s.linkOk = true) (pin candidate : Bool) (ms : Nat) :
    State.linkOk { s with link := { s.link with presPin := pin, candidate := candidate, holdMs := ms } } =
      true := by
  obtain ⟨hsupply, hdelay, hwindow, hprogress, hpresence⟩ := State.linkOk_standing h
  have hheard := State.linkOk_heard h
  exact State.linkOk_of ⟨hsupply, hdelay, hwindow, hprogress, hpresence⟩
    (hheard.of_link rfl rfl rfl rfl hheard.bounded)

theorem State.linkOk_tickHold {s : State} (h : s.linkOk = true) : s.tickHold.linkOk = true := by
  have hcounted := State.linkOk_readPres h s.link.presPin s.link.candidate
    (min Config.presenceMs (s.link.holdMs + 1))
  unfold State.tickHold
  dsimp only
  split
  · exact State.linkOk_holdEnd hcounted _
  · exact hcounted

theorem State.linkOk_powerUpEnd {s : State} (h : s.linkOk = true) : s.powerUpEnd.linkOk = true := by
  unfold State.powerUpEnd
  split
  · next hs =>
    have hp := State.linkOk_presence h (by simp [hs]) (by simp [hs])
    exact (State.linkOk_heard h).linkOk_enterLink (by decide) (.inr hp)
  · exact h

theorem State.linkOk_tickDelay {s : State} (h : s.linkOk = true) : s.tickDelay.linkOk = true := by
  unfold State.tickDelay
  split
  · exact h
  · next k hd =>
    split
    · exact State.linkOk_powerUpEnd h
    · obtain ⟨hsupply, hdelay, hwindow, hprogress, hpresence⟩ := State.linkOk_standing h
      have hheard := State.linkOk_heard h
      refine State.linkOk_of ⟨hsupply, ?_, hwindow, hprogress, hpresence⟩
        (hheard.of_link rfl rfl rfl rfl hheard.bounded)
      rw [hd] at hdelay
      exact hdelay

theorem State.linkOk_overCurrent {s : State} (h : s.linkOk = true) : s.overCurrent.linkOk = true := by
  unfold State.overCurrent
  split
  · next hs =>
    have hp : s.link.presence = true :=
      State.linkOk_presence h (fun hd => by simp [hd, LinkState.supplied] at hs)
        (fun ha => by simp [ha, LinkState.supplied] at hs)
    have hentered := (State.linkOk_heard h).linkOk_enterLink (st := .overload) (by decide) (.inr hp)
    exact (((State.linkNotice_linkKept _ _ _ _).trans (State.linkNotice_linkKept _ _ _ _)).trans
      (State.raiseBoth_linkKept _ _)).linkOk hentered
  · exact h

/-! ### The link commands -/

/-- A new settle window begins in a window's place (R23, R31). -/
theorem State.linkOk_beginWindow {s : State} (h : s.linkOk = true) :
    State.linkOk { s with link := s.link.beginWindow } = true := by
  obtain ⟨hsupply, hdelay, -, -, hpresence⟩ := State.linkOk_standing h
  have hheard := State.linkOk_heard h
  exact State.linkOk_of ⟨hsupply, hdelay, .inl rfl, Nat.zero_le _, hpresence⟩
    (hheard.of_link rfl rfl rfl rfl hheard.bounded.beginWindow)

theorem State.linkOk_doRetrain {s : State} (h : s.linkOk = true) : s.doRetrain.1.linkOk = true := by
  have hheard := State.linkOk_heard h
  unfold State.doRetrain
  cases hs : s.link.state with
  | active =>
    exact hheard.linkOk_enterLink (by decide) (.inr (State.linkOk_presence h (by simp [hs]) (by simp [hs])))
  | settling => exact State.linkOk_beginWindow h
  | overload =>
    exact hheard.linkOk_enterLink (by decide) (.inr (State.linkOk_presence h (by simp [hs]) (by simp [hs])))
  | disabled | absent | powering => exact h

theorem State.linkOk_doDisable {s : State} (h : s.linkOk = true) : s.doDisable.1.linkOk = true := by
  unfold State.doDisable
  split
  · exact h
  · exact (State.linkOk_heard h).linkOk_enterLinkNoticed (by decide) (.inl rfl)

theorem State.linkOk_doEnable {s : State} (h : s.linkOk = true) : s.doEnable.1.linkOk = true := by
  unfold State.doEnable
  split
  · split
    · next hp => exact (State.linkOk_heard h).linkOk_enterLink (by decide) (.inr hp)
    · next hp =>
      exact (State.linkOk_heard h).linkOk_enterLinkNoticed (by decide) (.inr (by simpa using hp))
  · exact h

theorem State.linkOk_doExpectRemoval {s : State} (h : s.linkOk = true) :
    s.doExpectRemoval.1.linkOk = true := by
  unfold State.doExpectRemoval
  split
  · next ha =>
    obtain ⟨-, hbounded, hwidth, hheard, htarget⟩ := State.linkOk_heard h
    exact State.linkOk_of (s := { s with link := { s.link with expect := true } })
      (by obtain ⟨h1, h2, h3, h4, h5⟩ := State.linkOk_standing h; exact ⟨h1, h2, h3, h4, h5⟩)
      ⟨fun _ => ha, hbounded, hwidth, hheard, htarget⟩
  · exact h

/-- A learn is armed for a usable string alone (R121). -/
theorem State.linkOk_doLearnStart {s : State} (h : s.linkOk = true) (p : Port) (n b : Byte) (base : Half) :
    (s.doLearnStart p n b base).1.linkOk = true := by
  unfold State.doLearnStart
  split
  · next m k _ _ =>
    split
    · exact h
    split
    · exact h
    split
    · exact h
    · next hu =>
      split
      · exact h
      · have hstanding := State.linkOk_standing h
        obtain ⟨hexpect, hbounded, hwidth, hheard, -⟩ := State.linkOk_heard h
        have husable : s.usable m = true := by simpa using hu
        exact State.linkOk_of (s := s.armLearn ⟨m, k, base, p⟩) hstanding
          ⟨hexpect, hbounded, hwidth, hheard, fun g hg => Option.some.inj hg ▸ husable⟩
  · exact h

/-! ### The drop of an input (R27) -/

/-- What an open learn is behind a drop is another string's (R127). -/
theorem State.learnDropped_open {s : State} {n : StringNo} {g : Target}
    (h : (s.learnDropped n).learn.state.open? = some g) :
    s.learn.state.open? = some g ∧ g.string ≠ n := by
  have hs := (s.learnDropped_linkKept n).2.2.2 g h
  refine ⟨hs, fun hn => ?_⟩
  subst hn
  rw [State.learnDropped_of_target hs] at h
  cases h

/-- The flag of an input that no string is mapped to changes nothing of the strings (R27). -/
theorem State.linkOk_flagDropped {s : State} (h : s.linkOk = true) {i : Sin}
    (hs : s.store.global.stringOf i = none) : (s.flagDropped i).linkOk = true := by
  obtain ⟨hsupply, hdelay, hwindow, hprogress, hpresence⟩ := State.linkOk_standing h
  obtain ⟨hexpect, hbounded, hwidth, hheard, htarget⟩ := State.linkOk_heard h
  have husable (m : StringNo) : (s.flagDropped i).usable m = s.usable m := by
    have hm : s.store.global.map.get m ≠ some i := fun hm => by
      have := (Global.stringOf_isSome_iff _ _).mpr ⟨m, hm⟩
      simp [hs] at this
    rw [Bool.eq_iff_iff, State.flagDropped_usable_iff]
    exact and_iff_left hm
  refine State.linkOk_of ⟨hsupply, hdelay, hwindow, hprogress, hpresence⟩ ⟨hexpect, hbounded, ?_,
    fun m => ?_, fun g hg => ?_⟩
  · rw [State.usableCount_congr husable]
    exact hwidth
  · rw [husable]
    exact hheard m
  · rw [husable]
    exact htarget g hg

/-- The drop of a mapped input takes its string's usability and no other's (R27, R28). -/
theorem State.StringsHeard.dropChannel {s : State} (hg : s.store.global.legal = true) (h : s.StringsHeard)
    {i : Sin} {n : StringNo} (hs : s.store.global.stringOf i = some n) : (s.dropChannel i).StringsHeard := by
  rw [State.dropChannel_of_some hs]
  generalize hu : (s.muteDropped i n).setWidth.noticeWidth s.link.width = u
  have hlearn : u.learn = s.learn := by rw [← hu]; simp
  have htracker (m : StringNo) : u.trackers.get m = (s.muteDropped i n).trackers.get m := by rw [← hu]; simp
  have hlink : u.link = { (s.flagDropped i).link with width := (s.muteDropped i n).usableCount } := by
    rw [← hu]
    simp [State.setWidth]
  have hstore : u.store = s.store := by rw [← hu]; simp
  have husable (m : StringNo) : (u.learnDropped n).usable m = (s.usable m && m != n) := by
    rw [(u.learnDropped_linkKept n).usable, ← State.flagDropped_usable_eq hg hs]
    exact State.usable_congr (by rw [hlink]) (by rw [hlink]) (by rw [hstore]; rfl) m
  have hcount : (u.learnDropped n).usableCount = (s.muteDropped i n).usableCount :=
    State.usableCount_congr fun m => by
      rw [husable, State.muteDropped_usable, State.flagDropped_usable_eq hg hs]
  obtain ⟨-, hl, -, ht, -⟩ := u.learnDropped_keeps n
  refine ⟨by rw [hl, hlink]; exact h.expect, by rw [hl, hlink]; exact h.bounded, by rw [hl, hcount, hlink],
    fun m => ?_, fun g hopen => ?_⟩
  · rw [husable, ht, htracker, Bool.and_eq_true, bne_iff_ne, h.heard m]
    by_cases hm : m = n
    · rw [hm, State.muteDropped, State.enterMuted_state]
      simp
    · rw [State.muteDropped_other s i hm]
      exact and_iff_left hm
  · obtain ⟨ho, hne⟩ := State.learnDropped_open hopen
    rw [husable, Bool.and_eq_true, bne_iff_ne]
    exact ⟨h.target g (hlearn ▸ ho), hne⟩

theorem State.linkOk_dropChannel {s : State} (hg : s.store.global.legal = true) (h : s.linkOk = true)
    (i : Sin) : (s.dropChannel i).linkOk = true := by
  cases hs : s.store.global.stringOf i with
  | none =>
    rw [State.dropChannel_of_none hs]
    exact ((State.linkNotice_linkKept _ _ _ _).trans (State.raiseBoth_linkKept _ _)).linkOk
      (State.linkOk_flagDropped h hs)
  | some n =>
    obtain ⟨hsupply, hdelay, hwindow, hprogress, hpresence⟩ := State.linkOk_standing h
    refine State.linkOk_of ?_ ((State.linkOk_heard h).dropChannel hg hs)
    rw [s.dropChannel_link i]
    exact ⟨hsupply, hdelay, hwindow, hprogress, hpresence⟩

/-! ### The inputs of a set (R5, R6, R27) -/

/-- The records are legal as far as the link monitor reads them, and the monitor is as it must be. -/
def State.LinkSafe (s : State) : Prop := s.store.global.legal = true ∧ s.linkOk = true

theorem State.LinkSafe.kept {s t : State} (h : s.LinkSafe) (ht : s.LinkKept t) : t.LinkSafe :=
  ⟨ht.2.1 ▸ h.1, ht.linkOk h.2⟩

theorem State.LinkSafe.dropChannel {s : State} (h : s.LinkSafe) (i : Sin) : (s.dropChannel i).LinkSafe :=
  ⟨by rw [(s.dropChannel_keeps i).2.2.1]; exact h.1, State.linkOk_dropChannel h.1 h.2 i⟩

theorem State.takeEpisode_linkKept (s : State) (i : Sin) : s.LinkKept (s.takeEpisode i) :=
  .of_eq (by simp) (by simp) (by simp) (by simp)

theorem State.LinkSafe.takeStuckLong {s : State} (h : s.LinkSafe) (i : Sin) : (s.takeStuckLong i).LinkSafe := by
  by_cases hl : (s.siu.inputs.get i).longDue = true
  · have hreport : (s.reportLong i).LinkSafe := h.kept (.of_eq rfl rfl rfl rfl)
    rw [State.takeStuckLong_of_due hl]
    split
    · exact hreport.dropChannel i
    · exact hreport
  · rwa [State.takeStuckLong_of_not_due (by simpa using hl)]

theorem State.LinkSafe.finishInputs {s : State} (h : s.LinkSafe) : s.finishInputs.LinkSafe := by
  have hfold (l : List Sin) : ∀ t : State, t.LinkSafe → (l.foldl (fun t i => t.finishInput i) t).LinkSafe := by
    induction l with
    | nil => exact fun t ht => ht
    | cons i l ih => exact fun t ht => ih _ ((ht.kept (t.takeEpisode_linkKept i)).takeStuckLong i)
  exact hfold Sin.all s h

/-! ### The settle window (R21, R22) -/

theorem State.finishAux_linkKept (s : State) (x : AuxNo) : s.LinkKept (s.finishAux x) :=
  .of_eq (by simp) (by simp) (by simp) (by simp)

/-- Every usable string leaves MUTED, and no other tracker is told anything (R79). -/
theorem State.releaseUsable_boundaries (s : State) :
    s.SameRules s.releaseUsable ∧
    (∀ n, s.releaseUsable.trackers.get n =
      if s.usable n = true ∧ (s.trackers.get n).state = .muted then s.silentEntry n (s.trackers.get n)
      else s.trackers.get n) ∧
    ∀ p, s.releaseUsable.streams.get p = { s.streams.get p with
      waiting := (s.streams.get p).waiting ++ s.waitingOf StringNo.all fun n =>
        if s.usable n = true ∧ (s.trackers.get n).state = .muted then s.adoption n else [] } := by
  refine State.forStrings_boundaries fun n t h ht => ?_
  obtain ⟨-, hl, hs, -⟩ := id h
  rw [h.usable, State.leaveMuted, ht]
  by_cases hu : s.usable n = true
  · by_cases hm : (s.trackers.get n).state = .muted
    · have hsilent := t.enterSilent_boundary n
      rw [State.silentEntry_congr hs (congrArg Link.floors hl), ht,
        State.adoption_congr (congrArg Store.requested hs) ht] at hsilent
      simpa [hu, hm] using hsilent
    · simpa [hu, hm, ht] using State.BoundaryOf.refl t n
  · simpa [hu, ht] using State.BoundaryOf.refl t n

/-- The end of the window in its parts: floors and drops, the transition, the usable strings, the width. -/
theorem State.takeWindowEnd_of_due {s : State} (h : s.windowDue = true) : s.takeWindowEnd =
    let u := (s.setFloors.enterLink .active).releaseUsable.setWidth.markWindowEnd
    (u.linkNotice .linkState 4 3).linkNotice .width u.link.width s.link.width := if_pos h

theorem State.windowDue_iff (s : State) :
    s.windowDue = true ↔ s.link.state = .settling ∧ 8192 ≤ s.link.progress := by
  simp only [State.windowDue, Bool.and_eq_true, beq_iff_eq, decide_eq_true_eq]
  rfl

theorem State.Unheard.setFloors {s : State} (h : s.Unheard) : s.setFloors.Unheard := by
  refine ⟨h.expect, fun i => ?_, h.width, h.muted, h.closed⟩
  have hmax := (h.bounded i).2
  refine ⟨?_, hmax⟩
  simp only [State.setFloors, Eight.get_of, State.windowFloor]
  split
  · exact hmax
  · exact Nat.zero_le _

/-- Behind the transition to ACTIVE the usable strings leave MUTED and are counted (R22, R28, R79). -/
theorem State.Unheard.releaseUsable {s : State} (h : s.Unheard) :
    s.releaseUsable.setWidth.markWindowEnd.StringsHeard := by
  obtain ⟨hrules, ht, -⟩ := s.releaseUsable_boundaries
  have hlearn : s.releaseUsable.learn = s.learn := by simp
  generalize s.releaseUsable = r at *
  have husable (n : StringNo) : r.setWidth.markWindowEnd.usable n = s.usable n := hrules.usable n
  obtain ⟨-, hl, -, -⟩ := hrules
  refine ⟨fun he => ?_, fun i => ?_, rfl, fun n => ?_, fun g hg => ?_⟩
  · have hexpect : r.link.expect = true := he
    rw [hl, h.expect] at hexpect
    cases hexpect
  · have hbounded : r.link.Bounded := hl ▸ h.bounded
    exact hbounded i
  · have hn : r.setWidth.markWindowEnd.trackers.get n = r.trackers.get n := rfl
    rw [husable, hn, ht]
    simp only [h.muted n, and_true]
    split
    · next hu => simp [hu, State.silentEntry]
    · next hu => simp [hu, h.muted n]
  · have hopen : r.learn.state.open? = some g := hg
    rw [hlearn, h.closed] at hopen
    cases hopen

theorem State.linkOk_takeWindowEnd {s : State} (h : s.linkOk = true) : s.takeWindowEnd.linkOk = true := by
  by_cases hw : s.windowDue = true
  · rw [State.takeWindowEnd_of_due hw]
    obtain ⟨hs, -⟩ := s.windowDue_iff.mp hw
    have hne : s.setFloors.link.state ≠ .active := fun ha => by
      rw [show s.setFloors.link.state = s.link.state from rfl, hs] at ha
      cases ha
    have hunheard : (s.setFloors.enterLink .active).Unheard := by
      rw [State.enterLink_of_not_active _ hne]
      exact ((State.linkOk_heard h).unheard (by simp [hs])).setFloors.enter .active
    have hpresence : s.link.presence = true := State.linkOk_presence h (by simp [hs]) (by simp [hs])
    have hstanding : (s.setFloors.enterLink .active).link.Standing :=
      State.enterLink_standing (s := s.setFloors) (.inr hpresence)
    have hlink : (s.setFloors.enterLink .active).releaseUsable.link = (s.setFloors.enterLink .active).link := by
      simp
    rw [← hlink] at hstanding
    have hheard := hunheard.releaseUsable
    generalize (s.setFloors.enterLink .active).releaseUsable = r at *
    have hwidth : r.setWidth.markWindowEnd.link.Standing := by
      obtain ⟨hsupply, hdelay, hwindow, hprogress, hpresence⟩ := hstanding
      exact ⟨hsupply, hdelay, hwindow, hprogress, hpresence⟩
    exact ((State.linkNotice_linkKept _ _ _ _).trans (State.linkNotice_linkKept _ _ _ _)).linkOk
      (State.linkOk_of hwidth hheard)
  · rwa [State.takeWindowEnd_of_not_due (by simpa using hw)]

theorem State.LinkSafe.takeWindowEnd {s : State} (h : s.LinkSafe) : s.takeWindowEnd.LinkSafe :=
  ⟨by rw [s.takeWindowEnd_keeps.2.1]; exact h.1, State.linkOk_takeWindowEnd h.2⟩

/-- A set measures for a window that has not come to its end (R21). -/
theorem State.linkOk_measureWindow {s : State} (h : s.linkOk = true) (hw : s.windowDue = false)
    (d : Eight (Option Int)) : (s.measureWindow d).linkOk = true := by
  unfold State.measureWindow
  split
  · next hs =>
    obtain ⟨hsupply, hdelay, -, hprogress, hpresence⟩ := State.linkOk_standing h
    have hheard := State.linkOk_heard h
    have hlt : s.link.progress < 8192 := by
      by_contra hle
      rw [s.windowDue_iff.mpr ⟨hs, by omega⟩] at hw
      cases hw
    refine State.linkOk_of ⟨hsupply, hdelay, .inr hs, hlt, hpresence⟩
      (hheard.of_link rfl rfl rfl rfl fun i => ⟨(hheard.bounded i).1, ?_⟩)
    simp only [Eight.get_of]
    split
    · exact (hheard.bounded i).2
    · exact Nat.min_le_left _ _
  · exact h

/-! ### The end of a set and the next set -/

theorem State.endHandling_linkKept (s : State) : s.LinkKept s.endHandling := .of_eq rfl rfl rfl rfl

theorem State.LinkSafe.finishSet {s : State} (h : s.LinkSafe) : s.finishSet.LinkSafe := by
  have hinputs : s.finishTrackers.finishInputs.LinkSafe := (h.kept s.finishTrackers_linkKept).finishInputs
  have haux := (hinputs.kept (State.finishAux_linkKept _ .sin6)).kept (State.finishAux_linkKept _ .sin7)
  exact (haux.takeWindowEnd.kept (State.captureEnd_linkKept _)).kept (State.endHandling_linkKept _)

theorem State.LinkSafe.monitorChanges {s : State} (h : s.LinkSafe) (windowFirst : Bool) :
    (s.monitorChanges windowFirst).LinkSafe := by
  have htrackers := h.kept s.finishTrackers_linkKept
  unfold State.monitorChanges
  split
  · exact htrackers.takeWindowEnd.finishInputs
  · exact htrackers.finishInputs.takeWindowEnd

/-- The handling of a set meets the link monitor of the finished set, with no window end of its own (R27). -/
theorem State.met_link (s : State) : s.met.link = { s.finishSet.link with windowEnded := false } := by
  simp [State.met]

theorem State.LinkSafe.beginHandling {s : State} (h : s.LinkSafe) : s.beginHandling.LinkSafe := by
  obtain ⟨hsupply, hdelay, hwindow, hprogress, hpresence⟩ := State.linkOk_standing h.2
  have hheard := State.linkOk_heard h.2
  have hbegun : State.linkOk { s with link := { s.link with windowEnded := false } } = true :=
    State.linkOk_of ⟨hsupply, hdelay, hwindow, hprogress, hpresence⟩
      (hheard.of_link rfl rfl rfl rfl hheard.bounded)
  exact ⟨h.1, State.LinkKept.linkOk (.of_eq rfl rfl rfl rfl) hbegun⟩

theorem State.LinkSafe.met {s : State} (h : s.LinkSafe) : s.met.LinkSafe := by
  have hidle : ((s.finishSet.takeIdle .a).takeIdle .b).LinkSafe :=
    h.finishSet.kept (.of_eq (by simp) (by simp) (by simp) (by simp))
  exact hidle.beginHandling

theorem State.met_windowDue (s : State) : s.met.windowDue = false := by
  obtain ⟨-, -, -, -, -, hw, -⟩ := s.finishSet.settled_iff.mp s.finishSet_settled
  simpa [State.windowDue, State.met_link] using hw

theorem State.LinkSafe.setSampled {s : State} (h : s.LinkSafe) (hw : s.windowDue = false) (pins : SetInputs)
    (order : SetOrder) : (s.setSampled pins order).LinkSafe := by
  have hcond (x v) : s.LinkKept ((s.siuSample pins).conditionSample x v) := .of_eq rfl rfl rfl rfl
  have hmeasured (x v d) : (((s.siuSample pins).conditionSample x v).measureWindow d).LinkSafe :=
    ⟨by rw [(State.measureWindow_keeps _ _).2.2.2.1]; exact h.1,
      State.linkOk_measureWindow ((hcond x v).linkOk h.2) hw d⟩
  refine State.LinkSafe.kept ?_ (State.sampleTrackers_linkKept _ _ _)
  unfold State.setTapped
  dsimp only
  split
  · exact ((hmeasured _ _ _).kept (State.tapSample_linkKept _ _)).kept (State.captureEnd_linkKept _)
  · exact (hmeasured _ _ _).kept (State.tapSample_linkKept _ _)

theorem State.LinkSafe.conversionSet {s : State} (h : s.LinkSafe) (pins : SetInputs) (order : SetOrder) :
    (s.conversionSet pins order).LinkSafe := by
  have hsampled := h.met.setSampled s.met_windowDue pins order
  have hidles (t : State) : t.LinkKept t.countIdles := .of_eq rfl rfl rfl rfl
  rw [State.conversionSet_eq, State.handleSet_eq]
  split
  · exact hsampled.kept (hidles _)
  · exact ((hsampled.monitorChanges _).kept (State.sampleTrackers_linkKept _ _ _)).kept (hidles _)

end Sys2Proof.Machine
end

section
/-!
PROOF. Every step keeps the link monitor and what hangs on it: an accepted global record, the owners of the
commands, the rows, and a step on an empty queue (R17, R24, R25, R28, R78, R79, R127).
-/

namespace Sys2Proof.Machine

/-! ### An accepted global record (R23, R28, R96, R128) -/

/-- An accepted map names analog inputs (R102, R105). -/
theorem analog_of_mapFault? {na : Nat} {m : Six (Option Sin)} (h : mapFault? na m = none) {n : StringNo}
    {i : Sin} (hn : m.get n = some i) : i.number < na := by
  have hmem : i ∈ namedInputs m := by
    cases n <;> simp_all [namedInputs, Six.toList, Six.get]
  unfold mapFault? at h
  split at h
  · cases h
  · split at h
    · cases h
    · next hr =>
      by_contra hlt
      exact hr (List.any_eq_true.mpr ⟨i, hmem, by simpa using hlt⟩)

theorem Global.analog_of_legal {g : Global} (h : g.legal = true) {n : StringNo} {i : Sin}
    (hn : g.map.get n = some i) : g.analog i = true := by
  simp only [Global.legal, Bool.and_eq_true, List.all_eq_true] at h
  obtain ⟨⟨-, hmap⟩, -⟩ := h
  simpa [hn] using hmap n n.mem_all

/-- A learn that a global record leaves open has its target's map entry as it was (R128). -/
theorem State.learnGlobalCommit_open {s : State} {old new : Global} {g : Target}
    (h : (s.learnGlobalCommit old new).learn.state.open? = some g) :
    s.learn.state.open? = some g ∧ new.map.get g.string = old.map.get g.string := by
  have hs := (s.learnGlobalCommit_linkKept old new).2.2.2 g h
  refine ⟨hs, ?_⟩
  by_contra hne
  have htouched : g.three.any (stringTouched old new) = true :=
    List.any_eq_true.mpr ⟨g.string, List.mem_cons_self .., by simp [stringTouched, Ne.symm hne]⟩
  have hfails : s.learnGlobalCommit old new = s.failLearn .remap := by
    simp only [State.learnGlobalCommit, hs, if_pos htouched]
  rw [hfails, State.failLearn_open] at h
  cases h

/-- Outside ACTIVE a global record leaves the strings as they are: unheard. -/
theorem State.linkOk_commitGlobal_of_not_active {s : State} (h : s.linkOk = true) (g : Global)
    (hs : s.link.state ≠ .active) : (s.commitGlobal g).linkOk = true := by
  have hstored : (s.storedGlobal g).linkOk = true := by
    obtain ⟨hexpect, hbounded, hwidth, hmuted, hclosed⟩ := (State.linkOk_heard h).unheard hs
    have hunheard : (s.storedGlobal g).Unheard := ⟨hexpect, hbounded, hwidth, hmuted, hclosed⟩
    have hstanding := State.linkOk_standing h
    exact State.linkOk_of (s := s.storedGlobal g) hstanding (hunheard.heard hs)
  rw [State.commitGlobal_eq, State.linkCommit_of_not_active (s := s.storedGlobal g) _ g hs]
  refine (State.learnGlobalCommit_linkKept _ _ _).linkOk ?_
  split
  · exact State.linkOk_beginWindow hstored
  · exact hstored

/-- A string that is usable before and keeps its map entry is usable behind a change of roles (R28). -/
theorem State.roleFloors_usable {s : State} {old : Global} {n : StringNo} (hold : old.legal = true)
    (hnew : ∀ m i, s.store.global.map.get m = some i → s.store.global.analog i = true)
    (hmap : s.store.global.map.get n = old.map.get n) (hu : s.usable n = true) :
    (s.roleFloors old s.store.global).usable n = true := by
  obtain ⟨ha, i, hi, hd⟩ := (s.usable_iff n).mp hu
  have hrole : old.analog i = s.store.global.analog i := by
    rw [hnew n i hi, Global.analog_of_legal hold (hmap ▸ hi)]
  refine (State.usable_iff _ n).mpr ⟨ha, i, hi, ?_⟩
  simpa [State.roleFloors, hrole] using hd

/-- A tracker behind a global record taken in ACTIVE is out of MUTED exactly when its string is usable (R28). -/
theorem State.remapEntry_heard (s : State) (old new : Global) (n : StringNo) :
    s.usable n = true ↔ (s.remapEntry old new n).state ≠ .muted := by
  unfold State.remapEntry
  dsimp only
  by_cases hu : s.usable n = true
  · rw [if_pos hu]
    refine iff_of_true hu ?_
    split
    · simp [State.silentEntry]
    · next hm => exact fun hmuted => hm (.inl hmuted)
  · rw [if_neg hu]
    refine iff_of_false hu ?_
    split
    · next hm => exact not_not.mpr hm
    · simp [Tracker.mutedEntry]

/-- A record that keeps the map keeps every string as usable as it was. -/
theorem State.linkOk_storedGlobal {s : State} (h : s.linkOk = true) {g : Global}
    (hmap : g.map = s.store.global.map) : (s.storedGlobal g).linkOk = true := by
  have hstanding := State.linkOk_standing h
  obtain ⟨hexpect, hbounded, hwidth, hheard, htarget⟩ := State.linkOk_heard h
  have husable (n : StringNo) : (s.storedGlobal g).usable n = s.usable n := by
    simp [State.usable, conditioned, hmap]
  refine State.linkOk_of (s := s.storedGlobal g) hstanding ⟨hexpect, hbounded, ?_, fun n => ?_, fun t ht => ?_⟩
  · rw [State.usableCount_congr husable]
    exact hwidth
  · rw [husable]
    exact hheard n
  · rw [husable]
    exact htarget t ht

theorem State.linkOk_commitGlobal_of_active {s : State} (h : s.linkOk = true) {g : Global}
    (hold : s.store.global.legal = true) (hnew : ∀ n i, g.map.get n = some i → g.analog i = true)
    (hs : s.link.state = .active) : (s.commitGlobal g).linkOk = true := by
  rw [State.commitGlobal_eq, State.linkCommit_of_active (s := s.storedGlobal g) _ g hs]
  split
  · next hsame =>
    exact (State.learnGlobalCommit_linkKept _ _ _).linkOk (State.linkOk_storedGlobal h hsame.2)
  · obtain ⟨hlink, htracker, -⟩ := (s.storedGlobal g).reevaluate_spec s.store.global g
    have hstore : ((s.storedGlobal g).reevaluate s.store.global g).store = (s.storedGlobal g).store := by simp
    have hlearn : ((s.storedGlobal g).reevaluate s.store.global g).learn = s.learn := by simp
    generalize (s.storedGlobal g).reevaluate s.store.global g = r at *
    obtain ⟨hsupply, hdelay, hwindow, hprogress, hpresence⟩ := State.linkOk_standing h
    obtain ⟨hexpect, hbounded, -, -, htarget⟩ := State.linkOk_heard h
    have hkept := r.learnGlobalCommit_linkKept s.store.global g
    have husable (n : StringNo) : (r.learnGlobalCommit s.store.global g).usable n =
        ((s.storedGlobal g).roleFloors s.store.global g).usable n := by
      rw [hkept.usable]
      exact State.usable_congr (by rw [hlink]) (by rw [hlink]) (by rw [hstore]; rfl) n
    obtain ⟨-, hl, -, ht, -⟩ := r.learnGlobalCommit_keeps s.store.global g
    refine State.linkOk_of ?_ ⟨?_, fun i => ?_, ?_, fun n => ?_, fun t hopen => ?_⟩
    · rw [hl, hlink]
      exact ⟨hsupply, hdelay, hwindow, hprogress, hpresence⟩
    · rw [hl, hlink]
      exact hexpect
    · rw [hl, hlink]
      refine ⟨?_, (hbounded i).2⟩
      simp only [State.roleFloors, Eight.get_of]
      split
      · exact (hbounded i).1
      · exact Nat.zero_le _
    · rw [State.usableCount_congr husable, hl, hlink]
    · rw [husable, ht, htracker]
      exact State.remapEntry_heard _ _ _ n
    · obtain ⟨ho, hmap⟩ := State.learnGlobalCommit_open hopen
      obtain ⟨ha, i, hi, hd⟩ := (s.usable_iff _).mp (htarget t (hlearn ▸ ho))
      rw [husable]
      exact State.roleFloors_usable (s := s.storedGlobal g) hold hnew hmap
        ((State.usable_iff _ _).mpr ⟨ha, i, hmap.trans hi, hd⟩)

theorem State.LinkSafe.linkOk_doEditGlobal {s : State} (h : s.LinkSafe) (p : Port) (base : Half)
    (m : GlobalImage) : (s.doEditGlobal p base m).1.linkOk = true := by
  unfold State.doEditGlobal
  dsimp only
  split
  · exact h.2
  · split
    · next map grade _ _ =>
      split
      · exact h.2
      · next hfault =>
        refine (State.raise_linkKept _ _ _).linkOk ?_
        by_cases hs : s.link.state = .active
        · refine State.linkOk_commitGlobal_of_active h.2 h.1 (fun n i hn => ?_) hs
          exact (Global.analog_iff _ i).mpr (analog_of_mapFault? hfault hn)
        · exact State.linkOk_commitGlobal_of_not_active h.2 _ hs
    · exact h.2

/-! ### The owners of the other commands -/

/-- The parts of which the link monitor's invariant speaks. -/
def State.linkParts (s : State) : Link × Six Tracker × Store × Learn := (s.link, s.trackers, s.store, s.learn)

theorem State.LinkKept.of_parts {s t : State} (h : t.linkParts = s.linkParts) : s.LinkKept t := by
  simp only [State.linkParts, Prod.mk.injEq] at h
  obtain ⟨hl, ht, hs, he⟩ := h
  exact .of_eq hl (by rw [hs]) ht he

theorem State.doSetClock_linkKept (s : State) (c : Byte) : s.LinkKept (s.doSetClock c).1 := by
  unfold State.doSetClock
  split
  · exact .refl s
  · split
    · exact .refl s
    · unfold State.chooseClock
      split
      · exact .of_eq rfl rfl rfl rfl
      · exact State.LinkKept.trans (.of_eq rfl rfl rfl rfl) (State.clearHistories_linkKept _)

theorem State.doReadProfile_linkKept (s : State) (b n : Byte) : s.LinkKept (s.doReadProfile b n).1 := by
  unfold State.doReadProfile
  split <;> exact .refl s

theorem State.doEditProfile_linkKept (s : State) (p : Port) (b n : Byte) (base : Half) (m : ProfileImage) :
    s.LinkKept (s.doEditProfile p b n base m).1 := by
  unfold State.doEditProfile
  split
  · dsimp only
    split
    · exact .refl s
    split
    · exact .refl s
    split
    · exact .refl s
    · exact State.LinkKept.trans (.of_eq rfl rfl rfl rfl) (State.learnProfileCommit_linkKept _ _ _)
  · exact .refl s

theorem State.doSelectBank_linkKept (s : State) (m b : Byte) : s.LinkKept (s.doSelectBank m b).1 := by
  unfold State.doSelectBank
  split
  · exact .refl s
  split
  · exact .refl s
  · exact State.forStrings_linkKept (fun n t => by
      split
      · exact t.requestBank_linkKept _ n
      · exact .refl t) s

theorem State.doLearnAbort_linkKept (s : State) (p : Port) : s.LinkKept (s.doLearnAbort p).1 := by
  unfold State.doLearnAbort
  split
  · exact s.endLearn_linkKept _ _
  · exact .refl s

/-! The commands of the Stream Units change none of the parts. -/

theorem State.doSetStream_linkParts (s : State) (p : Port) (m : SettingsImage) :
    (s.doSetStream p m).1.linkParts = s.linkParts := by
  unfold State.doSetStream
  dsimp only
  repeat' split
  all_goals simp [State.linkParts]

theorem State.doSetFilter_linkParts (s : State) (p : Port) (l : List FilterImage) :
    (s.doSetFilter p l).1.linkParts = s.linkParts := by
  unfold State.doSetFilter
  split
  · rfl
  · split <;> rfl

theorem State.doStart_linkParts (s : State) (p : Port) : (s.doStart p).1.linkParts = s.linkParts := by
  unfold State.doStart
  split <;> simp [State.linkParts]

theorem State.doStop_linkParts (s : State) (p : Port) : (s.doStop p).1.linkParts = s.linkParts := by
  simp [State.doStop, State.linkParts]

theorem State.doHold_linkParts (s : State) (p : Port) : (s.doHold p).1.linkParts = s.linkParts := by
  unfold State.doHold
  split <;> simp [State.linkParts]

theorem State.doResume_linkParts (s : State) (p : Port) : (s.doResume p).1.linkParts = s.linkParts := by
  unfold State.doResume
  split <;> simp [State.linkParts]

theorem State.doResync_linkParts (s : State) (p : Port) : (s.doResync p).1.linkParts = s.linkParts := by
  unfold State.doResync
  split <;> simp [State.linkParts]

theorem State.doFetch_linkParts (s : State) (p : Port) : (s.doFetch p).1.linkParts = s.linkParts := by
  unfold State.doFetch
  split <;> rfl

theorem State.doRelease_linkParts (s : State) (p : Port) (q : Byte) :
    (s.doRelease p q).1.linkParts = s.linkParts := by
  unfold State.doRelease
  split
  · rfl
  · split <;> simp [State.linkParts]

theorem State.doReadLatch_linkParts (s : State) (p : Port) : (s.doReadLatch p).1.linkParts = s.linkParts := by
  unfold State.doReadLatch
  split <;> rfl

theorem State.doPostCue_linkParts (s : State) (p : Port) (d : Byte) (c : Half) :
    (s.doPostCue p d c).1.linkParts = s.linkParts := by
  unfold State.doPostCue
  split <;> simp [State.linkParts]

/-! ### The rows -/

/-- The row answers states in which the link monitor is as it must be. -/
def AnswersLinkOk (r : Result) : Prop := ∀ t, r = .next t → t.linkOk = true

theorem answersLinkOk_next {t : State} (h : t.linkOk = true) : AnswersLinkOk (.next t) := fun _ ht =>
  Host.Outcome.next.inj ht ▸ h

theorem answersLinkOk_if {s t : State} (c : Prop) [Decidable c] (hs : s.linkOk = true)
    (ht : c → t.linkOk = true) : AnswersLinkOk (if c then .next t else .next s) := by
  split
  · next hc => exact answersLinkOk_next (ht hc)
  · exact answersLinkOk_next hs

/-- A frame meets a finished set, and what its owner makes of it is answered. -/
theorem State.LinkSafe.frame {s : State} (h : s.LinkSafe) (p : Port) (n : Nat)
    {owner : State → State × Response} (howner : ∀ t : State, t.LinkSafe → (owner t).1.linkOk = true) :
    AnswersLinkOk (.next (s.frame p n owner)) := by
  refine answersLinkOk_next ?_
  unfold State.frame
  dsimp only
  split
  · split
    · exact (s.updPort_linkKept p _).linkOk h.2
    · exact (State.updPort_linkKept _ p _).linkOk (howner _ h.finishSet)
  · exact h.2

/-- A frame whose owner leaves alone what the link monitor reads. -/
theorem State.LinkSafe.frame_kept {s : State} (h : s.LinkSafe) (p : Port) (n : Nat)
    {owner : State → State × Response} (howner : ∀ t : State, t.LinkKept (owner t).1) :
    AnswersLinkOk (.next (s.frame p n owner)) :=
  h.frame p n fun t ht => (howner t).linkOk ht.2

/-- A frame that is answered from what the part holds. -/
theorem State.LinkSafe.frame_read {s : State} (h : s.LinkSafe) (p : Port) (n : Nat) (r : State → Response) :
    AnswersLinkOk (.next (s.frame p n fun t => (t, r t))) :=
  h.frame_kept p n .refl

theorem State.ownAnswer_linkKept (s : State) (p : Port) (n : Nat) (st : Status) :
    s.LinkKept (s.ownAnswer p n st) := by
  unfold State.ownAnswer
  dsimp only
  split
  · exact s.updPort_linkKept p _
  · exact .refl s

theorem State.powerOn_linkOk (s : State) : s.powerOn.linkOk = true := by
  have hunheard : s.powerOn.Unheard :=
    ⟨rfl, fun i => by
      rw [show s.powerOn.link.floors.get i = 0 from Eight.get_of _ i,
        show s.powerOn.link.windowMax.get i = 0 from Eight.get_of _ i]
      exact ⟨Nat.zero_le _, Nat.zero_le _⟩, rfl, fun n => by rw [State.powerOn_trackers]; rfl, rfl⟩
  exact State.linkOk_of ⟨rfl, rfl, .inl rfl, Nat.zero_le _, .inr rfl⟩ (hunheard.heard nofun)

theorem State.LinkSafe.execPartReset {s : State} (h : s.LinkSafe) (p : Port) :
    AnswersLinkOk (execPartReset p s) := by
  have hreset : s.powerOn.LinkKept s.partReset := .of_eq rfl rfl rfl rfl
  unfold Machine.execPartReset
  dsimp only
  split
  · split
    · exact answersLinkOk_next ((s.updPort_linkKept p _).linkOk h.2)
    · exact answersLinkOk_next ((hreset.trans (State.updPort_linkKept _ p _)).linkOk s.powerOn_linkOk)
  · exact answersLinkOk_next h.2

theorem State.LinkSafe.execUnknownCommand {s : State} (h : s.LinkSafe) (p : Port) (code : Byte)
    (args : List Byte) : AnswersLinkOk (execUnknownCommand p code args s) := by
  unfold Machine.execUnknownCommand
  split
  · exact h.frame_read p _ _
  · exact answersLinkOk_next ((s.ownAnswer_linkKept p _ _).linkOk h.2)

theorem State.linkOk_presChange {s : State} (h : s.linkOk = true) (level : Bool) :
    State.linkOk { s with link := s.link.readPres level } = true := by
  unfold Link.readPres
  split
  · exact State.linkOk_readPres h _ _ _
  · exact State.linkOk_readPres h _ _ _

theorem State.auxBefore_linkKept (s : State) (x : AuxNo) : s.LinkKept (s.auxBefore x) := by
  cases x with
  | sin6 => exact .refl s
  | sin7 => exact s.finishAux_linkKept .sin6

theorem State.takeAux_linkKept (s : State) (x : AuxNo) : s.LinkKept (s.takeAux x) :=
  .of_eq (by simp) (by simp) (by simp) (by simp)

theorem State.takeDigital_linkKept (s : State) (x : AuxNo) : s.LinkKept (s.takeDigital x) :=
  .of_eq (by simp) (by simp) (by simp) (by simp)

theorem State.loseWordClock_linkKept (s : State) : s.LinkKept s.loseWordClock :=
  (State.LinkKept.trans (.of_eq rfl rfl rfl rfl) (State.clearHistories_linkKept _)).trans
    (.of_eq rfl rfl rfl rfl)

theorem State.watchEnd_linkKept (s : State) : s.LinkKept s.watchEnd := by
  unfold State.watchEnd
  split
  · exact s.loseWordClock_linkKept
  · exact .refl s

theorem State.tickWatch_linkKept (s : State) : s.LinkKept s.tickWatch := by
  unfold State.tickWatch
  split
  · exact s.loseWordClock_linkKept
  · exact .of_eq rfl rfl rfl rfl

theorem State.takePublication_linkKept (s : State) (p : Port) (m : Maker) :
    s.LinkKept (s.takePublication p m) :=
  .of_eq (by simp) (by simp) (by simp) (by simp)

theorem State.takeIdle_linkKept (s : State) (p : Port) : s.LinkKept (s.takeIdle p) :=
  .of_eq (by simp) (by simp) (by simp) (by simp)

/-- Every row leaves the link monitor as it must be. -/
theorem exec_linkOk (c : Instr) {s : State} (h : s.LinkSafe) : AnswersLinkOk (exec c s) := by
  have hset := h.finishSet
  have hkept {t : State} (ht : s.LinkKept t) : AnswersLinkOk (.next t) := answersLinkOk_next (ht.linkOk h.2)
  have hparts (p : Port) (n : Nat) {owner : State → State × Response}
      (ho : ∀ t : State, (owner t).1.linkParts = t.linkParts) : AnswersLinkOk (.next (s.frame p n owner)) :=
    h.frame_kept p n fun t => .of_parts (ho t)
  cases c with
  | powerOn => exact answersLinkOk_next s.powerOn_linkOk
  | partReset p => exact h.execPartReset p
  | conversionSet src pins order => exact answersLinkOk_if _ h.2 fun _ => (h.conversionSet pins order).2
  | stuckEpisodeBegin i => exact hkept (s.takeEpisode_linkKept i)
  | stuckLong i =>
    exact answersLinkOk_if _ h.2 fun _ => ((h.kept s.finishTrackers_linkKept).takeStuckLong i).2
  | auxEvaluation x =>
    exact answersLinkOk_if _ h.2 fun _ =>
      ((s.auxBefore_linkKept x).trans (State.takeAux_linkKept _ x)).linkOk h.2
  | digitalAuxPublish x =>
    exact answersLinkOk_if _ h.2 fun _ =>
      ((s.auxBefore_linkKept x).trans (State.takeDigital_linkKept _ x)).linkOk h.2
  | settleWindowEnd =>
    exact answersLinkOk_if _ h.2 fun _ => (h.kept s.finishTrackers_linkKept).takeWindowEnd.2
  | stall n => exact hkept (s.takeStall_linkKept n)
  | onsetTimeout n => exact hkept (s.takeTimeout_linkKept n)
  | releaseTimerEnd n => exact hkept (s.takeRelease_linkKept n)
  | levelTimer n => exact hkept (s.takeLevel_linkKept n)
  | wordClockLoss => exact answersLinkOk_next ((State.watchEnd_linkKept _).linkOk hset.2)
  | presChange level => exact answersLinkOk_next (State.linkOk_presChange hset.2 level)
  | presenceBecomesTrue => exact answersLinkOk_next (State.linkOk_holdEnd hset.2 true)
  | presenceBecomesFalse => exact answersLinkOk_next (State.linkOk_holdEnd hset.2 false)
  | powerUpDelayEnd => exact answersLinkOk_next (State.linkOk_powerUpEnd hset.2)
  | overCurrent => exact answersLinkOk_next (State.linkOk_overCurrent hset.2)
  | armTimerExpiry => exact answersLinkOk_next ((State.armEnd_linkKept _).linkOk hset.2)
  | captureEnd => exact hkept s.captureEnd_linkKept
  | learnCommit => exact answersLinkOk_next ((State.takeLearnCommit_linkKept _).linkOk hset.2)
  | publicationTaken p m => exact hkept (s.takePublication_linkKept p m)
  | idleTimerExpiry p => exact hkept (s.takeIdle_linkKept p)
  | csFall p | csRise p | responseReady p => exact hkept (s.updPort_linkKept p _)
  | unknownCommand p code args => exact h.execUnknownCommand p code args
  | malformedFrame p code args => exact hkept (s.ownAnswer_linkKept p _ _)
  | busyFrame p code args => exact answersLinkOk_if _ h.2 fun _ => (s.ownAnswer_linkKept p _ _).linkOk h.2
  | identify p | readStatus p | readFloors p | learnStatus p | readStream p => exact h.frame_read p _ _
  | readContext p n | readCounters p n m => exact h.frame_read p _ _
  | setClock p choice => exact h.frame_kept p _ fun t => t.doSetClock_linkKept _
  | clearFlags p word | setAttnMask p word => exact h.frame_kept p _ fun t => t.updPort_linkKept _ _
  | readProfile p b n => exact h.frame_kept p _ fun t => t.doReadProfile_linkKept _ _
  | editProfile p b n base m => exact h.frame_kept p _ fun t => t.doEditProfile_linkKept _ _ _ _ _
  | readGlobal p => exact h.frame_kept p _ .refl
  | editGlobal p base m => exact h.frame p _ fun t ht => ht.linkOk_doEditGlobal _ _ _
  | selectBank p m b => exact h.frame_kept p _ fun t => t.doSelectBank_linkKept _ _
  | retrain p => exact h.frame p _ fun t ht => State.linkOk_doRetrain ht.2
  | disable p => exact h.frame p _ fun t ht => State.linkOk_doDisable ht.2
  | enable p => exact h.frame p _ fun t ht => State.linkOk_doEnable ht.2
  | expectRemoval p => exact h.frame p _ fun t ht => State.linkOk_doExpectRemoval ht.2
  | learnStart p n b base => exact h.frame p _ fun t ht => State.linkOk_doLearnStart ht.2 _ _ _ _
  | learnAbort p => exact h.frame_kept p _ fun t => t.doLearnAbort_linkKept _
  | setStream p m => exact hparts p _ fun t => t.doSetStream_linkParts _ _
  | setFilter p l => exact hparts p _ fun t => t.doSetFilter_linkParts _ _
  | readFilter p => exact hparts p _ fun _ => rfl
  | streamStart p => exact hparts p _ fun t => t.doStart_linkParts _
  | streamStop p => exact hparts p _ fun t => t.doStop_linkParts _
  | streamHold p => exact hparts p _ fun t => t.doHold_linkParts _
  | streamResume p => exact hparts p _ fun t => t.doResume_linkParts _
  | streamResync p => exact hparts p _ fun t => t.doResync_linkParts _
  | streamReset p => exact hparts p _ fun _ => rfl
  | fetch p => exact hparts p _ fun t => t.doFetch_linkParts _
  | release p q => exact hparts p _ fun t => t.doRelease_linkParts _ _
  | readLatch p => exact hparts p _ fun t => t.doReadLatch_linkParts _
  | postCue p d code => exact hparts p _ fun t => t.doPostCue_linkParts _ _ _
  | readPortCounters p | clearPortCounters p => exact hparts p _ fun _ => rfl

/-! ### The step -/

theorem State.LinkSafe.clockByte {s : State} (h : s.LinkSafe) (p : Port) (b : Byte) :
    AnswersLinkOk (s.clockByte p b) := by
  unfold State.clockByte
  dsimp only
  split
  · exact answersLinkOk_next h.2
  split
  · split
    · exact exec_linkOk _ (h.kept (s.updPort_linkKept p _))
    · exact answersLinkOk_next ((s.updPort_linkKept p _).linkOk h.2)
  · exact answersLinkOk_next ((s.updPort_linkKept p _).linkOk h.2)

theorem State.LinkSafe.linkOk_tick {s : State} (h : s.LinkSafe) : s.tick.linkOk = true :=
  State.linkOk_tickHold ((State.tickArm_linkKept _).linkOk
    (State.linkOk_tickDelay ((State.tickWatch_linkKept _).linkOk h.finishSet.2)))

theorem State.LinkSafe.idle {s : State} (h : s.LinkSafe) : AnswersLinkOk s.idle := by
  unfold State.idle
  split
  · exact State.LinkSafe.clockByte (h.kept (s.updPort_linkKept .a _)) .a _
  · exact State.LinkSafe.clockByte (h.kept (s.updPort_linkKept .b _)) .b _
  · exact answersLinkOk_next h.linkOk_tick

/-- Settles O59: row by row, and a byte or a millisecond where no row waits. -/
theorem stepsKeepTheLink : Obligations.StepsKeepTheLink := by
  intro s t hrec hok ht
  have hsafe : s.LinkSafe := ⟨State.recordsOk_legal hrec, hok⟩
  unfold step at ht
  split at ht
  · exact hsafe.idle t ht
  · next c rest _ =>
    exact exec_linkOk (s := { s with pending := rest }) c
      (hsafe.kept (.of_eq rfl rfl rfl rfl)) t ht

end Sys2Proof.Machine
end

section
/-!
PROOF. The settle window: what each of its sets measures, and its end in ACTIVE with the floors, the dropped
flags and the usable strings (R21, R22, R28, R29, R46, R79).
-/

namespace Sys2Proof.Machine

/-! ### The end of the window -/

theorem exec_settleWindowEnd (s : State) : exec .settleWindowEnd s =
    if s.windowDue then .next s.finishTrackers.takeWindowEnd else .next s := rfl

/-- The part once the link has entered ACTIVE at the window end, before any string is told (R17, R22). -/
def State.windowEntered (s : State) : State := s.setFloors.enterLink .active

theorem State.windowEntered_eq {s : State} (h : s.link.state = .settling) : s.windowEntered =
    State.raiseBoth { s.setFloors with link := { s.link with
      floors := Eight.of s.windowFloor, dropped := Eight.of s.windowDrop,
      state := .active, supply := true, delayMs := none, progress := 0 } } .link := by
  have hne : s.setFloors.link.state ≠ .active := fun ha => by
    rw [show s.setFloors.link.state = s.link.state from rfl, h] at ha
    cases ha
  rw [State.windowEntered, State.enterLink_of_not_active _ hne]
  rfl

/-- The usable strings' trackers leave MUTED behind the transition, and are counted (R22, R28, R79). -/
def State.windowReleased (s : State) : State := s.windowEntered.releaseUsable.setWidth.markWindowEnd

theorem State.takeWindowEnd_released {s : State} (h : s.windowDue = true) : s.takeWindowEnd =
    (s.windowReleased.linkNotice .linkState 4 3).linkNotice .width s.windowReleased.link.width s.link.width :=
  s.takeWindowEnd_of_due h

theorem State.setWidth_usable (s : State) (n : StringNo) : s.setWidth.markWindowEnd.usable n = s.usable n := rfl

theorem State.windowReleased_usable (s : State) (n : StringNo) :
    s.windowReleased.usable n = s.windowEntered.usable n := by
  obtain ⟨hrules, -⟩ := s.windowEntered.releaseUsable_boundaries
  rw [State.windowReleased, State.setWidth_usable, hrules.usable]

theorem State.windowReleased_link (s : State) : s.windowReleased.link =
    { s.windowEntered.link with width := s.windowReleased.usableCount, windowEnded := true } := by
  have hset (r : State) : r.setWidth.markWindowEnd.link =
      { r.link with width := r.setWidth.markWindowEnd.usableCount, windowEnded := true } := rfl
  have hlink : s.windowEntered.releaseUsable.link = s.windowEntered.link := by simp
  rw [← hlink]
  exact hset s.windowEntered.releaseUsable

theorem State.windowReleased_keeps (s : State) :
    s.windowReleased.siu = s.windowEntered.siu ∧ s.windowReleased.cond = s.windowEntered.cond ∧
    s.windowReleased.store = s.windowEntered.store ∧ s.windowReleased.learn = s.windowEntered.learn ∧
    s.windowReleased.ports = s.windowEntered.ports ∧ s.windowReleased.phase = s.windowEntered.phase := by
  simp [State.windowReleased, State.setWidth, State.markWindowEnd]

/-- Width and mark leave the strings as the release has made them. -/
theorem State.windowReleased_strings (s : State) :
    s.windowReleased.trackers = s.windowEntered.releaseUsable.trackers ∧
    s.windowReleased.streams = s.windowEntered.releaseUsable.streams := by
  simp [State.windowReleased, State.setWidth, State.markWindowEnd]

theorem State.takeWindowEnd_link {s : State} (h : s.windowDue = true) : s.takeWindowEnd.link =
    { s.link with
      floors := Eight.of s.windowFloor, dropped := Eight.of s.windowDrop, state := .active, supply := true,
      delayMs := none, progress := 0, width := s.takeWindowEnd.usableCount, windowEnded := true } := by
  obtain ⟨hs, -⟩ := s.windowDue_iff.mp h
  have hnoticed (r : State) (a b c d : Nat) :
      ((r.linkNotice .linkState a b).linkNotice .width c d).usableCount = r.usableCount := rfl
  have hentered : s.windowEntered.link = { s.link with
      floors := Eight.of s.windowFloor, dropped := Eight.of s.windowDrop,
      state := .active, supply := true, delayMs := none, progress := 0 } := by
    rw [State.windowEntered_eq hs]
    rfl
  rw [State.takeWindowEnd_released h, hnoticed, State.linkNotice_link, State.linkNotice_link,
    State.windowReleased_link, hentered]

/-- What the end of the window leaves alone, and the accumulators, which the new flags alone move (R46). -/
theorem State.takeWindowEnd_rest {s : State} (h : s.windowDue = true) :
    s.takeWindowEnd.cond = s.setFloors.cond ∧ s.takeWindowEnd.learn = s.learn ∧
    ∀ p, s.takeWindowEnd.ports.get p =
      { s.ports.get p with flags := (s.ports.get p).flags ||| Flag.link.word } := by
  obtain ⟨hs, -⟩ := s.windowDue_iff.mp h
  obtain ⟨-, hcond, -, hlearn, hports, -⟩ := s.windowReleased_keeps
  rw [State.takeWindowEnd_released h]
  simp only [State.linkNotice_cond, State.linkNotice_learn, State.linkNotice_ports, hcond, hlearn, hports,
    State.windowEntered_eq hs, State.raiseBoth_cond, State.raiseBoth_learn]
  exact ⟨trivial, rfl, fun p => State.raiseBoth_port _ _ p⟩

/-- At the end of the window a string is usable once the transition has made it so. -/
theorem State.takeWindowEnd_usable {s : State} (h : s.windowDue = true) (n : StringNo) :
    s.takeWindowEnd.usable n = s.windowEntered.usable n := by
  have hnoticed (r : State) (a b c d : Nat) :
      ((r.linkNotice .linkState a b).linkNotice .width c d).usable n = r.usable n := rfl
  rw [State.takeWindowEnd_released h, hnoticed, State.windowReleased_usable]

/-- What the strings are and publish is the same before the transition as behind it. -/
theorem State.windowEntered_same {s : State} (h : s.link.state = .settling) :
    s.windowEntered.siu = s.siu ∧ s.windowEntered.phase = s.phase ∧ s.windowEntered.trackers = s.trackers ∧
    s.windowEntered.streams = s.streams ∧ s.windowEntered.store = s.store ∧
    s.windowEntered.link.floors = Eight.of s.windowFloor := by
  rw [State.windowEntered_eq h]
  exact ⟨rfl, rfl, rfl, rfl, rfl, rfl⟩

/-- Each string's tracker at the end of the window (R22, R79). -/
theorem State.takeWindowEnd_tracker {s : State} (h : s.windowDue = true) (n : StringNo) :
    s.takeWindowEnd.trackers.get n =
      if s.takeWindowEnd.usable n = true ∧ (s.trackers.get n).state = .muted then
        s.takeWindowEnd.silentEntry n (s.trackers.get n)
      else s.trackers.get n := by
  obtain ⟨hs, -⟩ := s.windowDue_iff.mp h
  obtain ⟨-, -, htrackers, -, hstore, hfloors⟩ := State.windowEntered_same hs
  obtain ⟨-, ht, -⟩ := s.windowEntered.releaseUsable_boundaries
  have hsilent (k : Tracker) : s.windowEntered.silentEntry n k = s.takeWindowEnd.silentEntry n k :=
    State.silentEntry_congr (by rw [hstore]; simp) (by rw [State.takeWindowEnd_link h, hfloors]) n k
  have htracker : s.takeWindowEnd.trackers = s.windowEntered.releaseUsable.trackers := by
    rw [State.takeWindowEnd_released h, State.linkNotice_trackers, State.linkNotice_trackers,
      s.windowReleased_strings.1]
  rw [htracker, ht, State.takeWindowEnd_usable h, htrackers, hsilent]

/-- What waits at the streams at the end of the window: the adoptions, then the link's notices (R22, R91). -/
theorem State.takeWindowEnd_stream {s : State} (h : s.windowDue = true) (p : Port) :
    s.takeWindowEnd.streams.get p = { s.streams.get p with
      waiting := (s.streams.get p).waiting ++
        s.waitingOf StringNo.all (fun n =>
          if s.takeWindowEnd.usable n = true ∧ (s.trackers.get n).state = .muted then s.adoption n else []) ++
        [⟨.link, s.siu.stamp, s.phase, .notice .linkState 4 3⟩,
         ⟨.link, s.siu.stamp, s.phase, .notice .width s.takeWindowEnd.link.width s.link.width⟩] } := by
  obtain ⟨hs, -⟩ := s.windowDue_iff.mp h
  obtain ⟨hsiu, hphase, htrackers, hstreams, hstore, -⟩ := State.windowEntered_same hs
  obtain ⟨-, -, hw⟩ := s.windowEntered.releaseUsable_boundaries
  obtain ⟨rsiu, -, -, -, -, rphase⟩ := s.windowReleased_keeps
  have hadopt (n : StringNo) : s.windowEntered.adoption n = s.adoption n :=
    State.adoption_congr (by rw [hstore]) (by rw [htrackers])
  have hwait (f : StringNo → List Publication) :
      s.windowEntered.waitingOf StringNo.all f = s.waitingOf StringNo.all f := by
    rw [State.waitingOf, State.waitingOf, hsiu, hphase]
  have hwidth : s.takeWindowEnd.link.width = s.windowReleased.link.width := by
    rw [State.takeWindowEnd_released h, State.linkNotice_link, State.linkNotice_link]
  simp only [hwidth, State.takeWindowEnd_usable h]
  rw [State.takeWindowEnd_released h, State.linkNotice_stream, State.linkNotice_stream,
    s.windowReleased_strings.2, hw, hwait, hstreams, State.linkNotice_siu, State.linkNotice_phase, rsiu,
    rphase, hsiu, hphase, htrackers]
  simp only [hadopt, List.append_assoc, List.cons_append, List.nil_append]

/-- The adoption that a tracker publishes, if it publishes one (R91). -/
theorem State.adoption_toList (s : State) (n : StringNo) : s.adoption n =
    (if (s.trackers.get n).bank = s.store.requested.get n then none
      else some (Publication.notice .bankAdopted n.number (s.store.requested.get n).code)).toList := by
  rw [State.adoption]
  split <;> rfl

theorem Accumulator.newlyUsed_eq (a : Accumulator) :
    a.newlyUsed = if a = .absent then .absent else .toLoad := by
  cases a <;> rfl

theorem settleWindowEndsInActive : Claims.SettleWindowEndsInActive := by
  intro s hquiet hstate hprogress
  have hdue : s.windowDue = true := s.windowDue_iff.mpr ⟨hstate, hprogress⟩
  obtain ⟨hcond, hlearn, hports⟩ := State.takeWindowEnd_rest hdue
  have hlink := State.takeWindowEnd_link hdue
  refine ⟨s.takeWindowEnd, ?_, by rw [hlink], by rw [hlink], by rw [hlink], by rw [hlink],
    congrArg Link.width hlink, by rw [hlink], by rw [hlink], by simp, by simp, hlearn, fun i => ?_,
    by rw [hcond]; rfl, fun i => ?_, State.takeWindowEnd_tracker hdue, fun p => ⟨hports p, ?_⟩⟩
  · rw [exec_settleWindowEnd, if_pos hdue, State.finishTrackers_of_quiet hquiet]
  · rw [hlink]
    exact ⟨Eight.get_of _ i, Eight.get_of _ i⟩
  · rw [hcond, hlink]
    simp only [State.setFloors, Eight.get_of, Bool.and_eq_true, Bool.not_eq_true', Option.isSome_iff_ne_none,
      Accumulator.newlyUsed_eq]
    split_ifs <;> simp_all
  · rw [State.takeWindowEnd_stream hdue]
    have hadopt (n : StringNo) :
        (if s.takeWindowEnd.usable n = true ∧ (s.trackers.get n).state = .muted then s.adoption n else []) =
          (if s.takeWindowEnd.usable n = true ∧ (s.trackers.get n).state = .muted ∧
              (s.trackers.get n).bank ≠ s.store.requested.get n then
            some (Publication.notice .bankAdopted n.number (s.store.requested.get n).code)
          else none).toList := by
      rw [State.adoption_toList]
      split_ifs <;> simp_all
    simp only [hadopt, State.waitingOf_toList]
    have hmade (n : StringNo) (c : Prop) [Decidable c] (u : Publication) :
        ((if c then some u else none).map fun u => (⟨.tracker n, s.siu.stamp, s.phase, u⟩ : Waiting)) =
          if c then some ⟨.tracker n, s.siu.stamp, s.phase, u⟩ else none := by
      split_ifs <;> rfl
    simp only [hmade]

/-! ### The sets of the window (R21) -/

theorem State.finishInput_link_of_not_active {s : State} (h : s.link.state ≠ .active) (i : Sin) :
    (s.finishInput i).link = s.link := by
  have hepisode : (s.takeEpisode i).link = s.link := by simp
  rw [← hepisode] at h ⊢
  rw [State.finishInput]
  generalize s.takeEpisode i = t at *
  by_cases hl : (t.siu.inputs.get i).longDue = true
  · have hkept : t.dropsChannel i = false := by simp [State.dropsChannel, h]
    rw [State.takeStuckLong_of_due hl, hkept]
    rfl
  · rw [State.takeStuckLong_of_not_due (by simpa using hl)]

/-- Outside ACTIVE the events of the inputs drop nothing (R27). -/
theorem State.finishInputs_link_of_not_active {s : State} (h : s.link.state ≠ .active) :
    s.finishInputs.link = s.link := by
  have hfold (l : List Sin) : ∀ t : State, t.link = s.link →
      (l.foldl (fun t i => t.finishInput i) t).link = s.link := by
    induction l with
    | nil => exact fun t ht => ht
    | cons i l ih => exact fun t ht => ih _ ((State.finishInput_link_of_not_active (ht ▸ h) i).trans ht)
  exact hfold Sin.all s rfl

/-- In a window that goes on the monitor has no change to make at the set (R22, R27). -/
theorem State.monitorChanges_link_of_settling {s : State} (hs : s.link.state = .settling)
    (hp : s.link.progress < 8192) (windowFirst : Bool) : (s.monitorChanges windowFirst).link = s.link := by
  have htrackers : s.finishTrackers.link = s.link := by simp
  have hnotDue (t : State) (ht : t.link = s.link) : t.takeWindowEnd = t := by
    refine State.takeWindowEnd_of_not_due ?_
    rw [Bool.eq_false_iff]
    intro hdue
    obtain ⟨-, hle⟩ := t.windowDue_iff.mp hdue
    rw [ht] at hle
    omega
  have hinputs : s.finishTrackers.finishInputs.link = s.link := by
    rw [State.finishInputs_link_of_not_active (by rw [htrackers, hs]; decide), htrackers]
  cases windowFirst
  · rw [State.monitorChanges, if_neg (by decide), hnotDue _ hinputs, hinputs]
  · rw [State.monitorChanges, if_pos rfl, hnotDue _ htrackers, hinputs]

/-- The link monitor once a set of the window has been measured: maxima, marks and progress (R21). -/
theorem State.measureWindow_link (s : State) (d : Eight (Option Int)) : (s.measureWindow d).link =
    if s.link.state = .settling then { s.link with
      windowMax := Eight.of fun i =>
        match d.get i with
        | none => s.link.windowMax.get i
        | some v => min 32767 (max (s.link.windowMax.get i) v.natAbs),
      stuckSeen := Eight.of fun i =>
        s.link.stuckSeen.get i || (s.store.global.analog i && (s.siu.inputs.get i).stuckNow),
      progress := s.link.progress + 1 }
    else s.link := by
  rw [State.measureWindow]
  split
  · rfl
  · rfl

/-- What a set measures is what the link has of it behind the trackers' samples (R21). -/
theorem State.setSampled_link (s : State) (pins : SetInputs) (order : SetOrder) :
    (s.setSampled pins order).link =
      ((s.siuSample pins).measureWindow ((s.siuSample pins).dcSamples (s.inputSamples pins))).link := by
  have htapped : (s.setTapped pins order).link = (((s.siuSample pins).conditionSample (s.inputSamples pins)
      (s.setValues pins)).measureWindow ((s.siuSample pins).dcSamples (s.inputSamples pins))).link := by
    unfold State.setTapped
    dsimp only
    split <;> simp
  have hcond (t : State) (x v d) : ((t.conditionSample x v).measureWindow d).link = (t.measureWindow d).link := by
    rw [State.measureWindow_link, State.measureWindow_link]
    rfl
  rw [State.setSampled, (State.sampleTrackers_keeps _ _ _).2.1, htapped, hcond]

/-- A window that goes on behind a set is the window of the set's samples, in each order (R21, R94). -/
theorem State.handleSet_link {s : State} {pins : SetInputs} {order : SetOrder}
    (h : order.monitorFirst = 0 ∨ (s.link.state = .settling ∧ s.link.progress + 1 < 8192)) :
    (s.handleSet pins order).link =
      ((s.siuSample pins).measureWindow ((s.siuSample pins).dcSamples (s.inputSamples pins))).link := by
  have hsampled := s.setSampled_link pins order
  rw [State.handleSet_eq, (State.countIdles_keeps _).2.1]
  by_cases hm : order.monitorFirst = 0
  · rw [if_pos hm, hsampled]
  · obtain ⟨hs, hp⟩ := h.resolve_left hm
    have hs' : (s.siuSample pins).link.state = .settling := hs
    rw [State.measureWindow, if_pos hs'] at hsampled
    rw [if_neg hm, (State.sampleTrackers_keeps _ _ _).2.1, State.monitorChanges_link_of_settling, hsampled,
      State.measureWindow, if_pos hs']
    · rw [hsampled]
      exact hs
    · rw [hsampled]
      exact hp

/-- The DC-removed sample of an analog input, 0 where its accumulator is loaded from it (R36, R37). -/
def Accumulator.removed (a : Accumulator) (x : Int) : Int :=
  match a with
  | .held m => x - m / 1024
  | _ => 0

theorem Accumulator.sample_of_ne {a : Accumulator} (h : a ≠ .absent) (x : Int) :
    (a.sample x).2 = some (a.removed x) := by
  cases a with
  | absent => exact absurd rfl h
  | held m => rfl
  | toLoad => rfl

theorem Accumulator.removed_natAbs (a : Accumulator) (x : Int) : (a.removed x).natAbs =
    match a with
    | .held m => (x - m / 1024).natAbs
    | _ => 0 := by
  cases a <;> rfl

/-- The analog inputs have a DC-removed sample at each set, and no other has (R36, R37). -/
theorem State.dcSamples_siuSample {s : State} (h : s.recordsOk = true) (pins : SetInputs) (i : Sin) :
    ((s.siuSample pins).dcSamples (s.inputSamples pins)).get i =
      if s.store.global.analog i then
        some ((s.cond.dc.get i).removed (inputSample (s.store.global.gains.get i) (pins.raw.get i)))
      else none := by
  have hcond : (s.siuSample pins).cond = s.cond := rfl
  simp only [State.dcSamples, State.inputSamples, Eight.get_of, hcond]
  by_cases ha : s.store.global.analog i = true
  · simp only [State.recordsOk, Bool.and_eq_true, List.all_eq_true, beq_iff_eq] at h
    obtain ⟨-, hdc⟩ := h
    have hne : s.cond.dc.get i ≠ .absent := by simpa [ha] using (hdc i i.mem_all).symm
    rw [if_pos ha, if_pos ha, Option.bind_some, Accumulator.sample_of_ne hne]
  · rw [if_neg ha, if_neg ha, Option.bind_none]

/-- Taking the events of an input leaves its rail run, so a set's mark reads the run behind it (R5, R21). -/
theorem State.handleSet_rail (s : State) (pins : SetInputs) (order : SetOrder) (i : Sin) :
    ((s.handleSet pins order).siu.inputs.get i).rail = ((s.siuSample pins).siu.inputs.get i).rail := by
  rw [State.handleSet_siu]
  split
  · rfl
  · simp [Siu.finished]

theorem conversionSetMeasuresTheWindow : Claims.ConversionSetMeasuresTheWindow := by
  intro src pins order s t hsrc hset hrec horder hexec x d analog
  have hlink : s.met.link = { s.link with windowEnded := false } := by
    rw [State.met_link, State.finishSet_of_settled hset]
  have hcond : s.met.cond = s.cond := by simp [State.met, State.finishSet_of_settled hset]
  have hmet : s.met.recordsOk = true := by
    have hlearn : s.met.learn = s.learn := by simp [State.met, State.finishSet_of_settled hset]
    simpa only [State.recordsOk, s.met_store, hcond, hlearn] using hrec
  have ht : t = s.met.handleSet pins order := by
    rw [State.conversionSet_of_exec hsrc hexec, State.conversionSet_eq]
  have hd (i : Sin) : ((s.cond.dc.get i).removed (x i)).natAbs = d i := Accumulator.removed_natAbs _ _
  have hmeasured : t.link = ((s.met.siuSample pins).measureWindow
      ((s.met.siuSample pins).dcSamples (s.met.inputSamples pins))).link := by
    rw [ht, State.handleSet_link (by rw [hlink]; exact horder)]
  have hkeeps (m : State) : (m.siuSample pins).link = m.link ∧ (m.siuSample pins).store = m.store := ⟨rfl, rfl⟩
  obtain ⟨hsampleLink, hsampleStore⟩ := hkeeps s.met
  have hmax (i : Sin) (w : Nat) :
      (match ((s.met.siuSample pins).dcSamples (s.met.inputSamples pins)).get i with
        | none => w
        | some v => min 32767 (max w v.natAbs)) = if analog i then min 32767 (max w (d i)) else w := by
    rw [State.dcSamples_siuSample hmet, s.met_store, hcond, ← hd]
    by_cases ha : s.store.global.analog i = true
    · rw [if_pos ha]
      exact (if_pos ha).symm
    · rw [if_neg ha]
      exact (if_neg ha).symm
  have hstuck (i : Sin) : ((s.met.siuSample pins).siu.inputs.get i).stuckNow =
      decide (480 ≤ (t.siu.inputs.get i).rail.length) := by
    rw [ht, State.handleSet_rail]
    rfl
  rw [hmeasured, State.measureWindow_link, hsampleLink, hsampleStore, s.met_store, hlink]
  simp only [hmax, hstuck]
  rfl

/-- Settles O15: the end of the window in its parts, and the measurement kept through the rest of the set. -/
theorem settleWindowEnds : Obligations.SettleWindowEnds :=
  ⟨settleWindowEndsInActive, conversionSetMeasuresTheWindow⟩

end Sys2Proof.Machine
end

section
/-!
SUPPORT. What a tracker's sample reads and what it leaves alone: tracker n decides from its own context, the
clock, the records and the noise floors (R50, R77), and changes no other tracker.
-/

namespace Sys2Proof.Machine

/-! ### What a tracker decides alone -/

/-- Tracker n alone decides: clock, link monitor, records and the other trackers stay, and its own last
sample does. -/
structure State.DecidesFor (s t : State) (n : StringNo) : Prop where
  siu : t.siu = s.siu
  link : t.link = s.link
  store : t.store = s.store
  other : ∀ m, m ≠ n → t.trackers.get m = s.trackers.get m
  prevY : (t.trackers.get n).prevY = (s.trackers.get n).prevY

theorem State.DecidesFor.refl (s : State) (n : StringNo) : s.DecidesFor s n :=
  ⟨rfl, rfl, rfl, fun _ _ => rfl, rfl⟩

theorem State.DecidesFor.trans {s t u : State} {n : StringNo} (h : s.DecidesFor t n) (h' : t.DecidesFor u n) :
    s.DecidesFor u n :=
  ⟨h'.siu.trans h.siu, h'.link.trans h.link, h'.store.trans h.store,
    fun m hm => (h'.other m hm).trans (h.other m hm), h'.prevY.trans h.prevY⟩

theorem State.updTracker_decidesFor (s : State) (n : StringNo) {f : Tracker → Tracker}
    (hf : ∀ t, (f t).prevY = t.prevY) : s.DecidesFor (s.updTracker n f) n :=
  ⟨rfl, rfl, rfl, fun m hm => by rw [State.updTracker_get, if_neg hm],
    by rw [State.updTracker_same, hf]⟩

theorem State.publishTrack_decidesFor (s : State) (n : StringNo) (k : TrackKind) :
    s.DecidesFor (s.publishTrack n k) n :=
  ⟨by simp, by simp, by simp, fun m _ => by simp, by simp⟩

theorem State.enterSilent_decidesFor (s : State) (n : StringNo) : s.DecidesFor (s.enterSilent n) n := by
  obtain ⟨hother, hown, -⟩ := s.enterSilent_spec n
  exact ⟨by simp, by simp, by simp, hother, by rw [hown]; rfl⟩

theorem State.beginOnset_decidesFor (s : State) (n : StringNo) (peak : Nat) :
    s.DecidesFor (s.beginOnset n peak) n := by
  obtain ⟨hother, hown, -⟩ := s.beginOnset_spec n peak
  exact ⟨by simp, by simp, by simp, hother, by rw [hown]; rfl⟩

theorem State.enterMuted_decidesFor (s : State) (n : StringNo) (c : EndCause) :
    s.DecidesFor (s.enterMuted n c) n := by
  unfold State.enterMuted
  split
  · exact .refl s n
  · exact (s.publishTrack_decidesFor n _).trans (State.updTracker_decidesFor _ n fun _ => rfl)

theorem State.ghost_decidesFor (s : State) (n : StringNo) : s.DecidesFor (s.ghost n) n :=
  (s.updTracker_decidesFor n (f := fun t => { t with ghost := t.ghost + 1 }) fun _ => rfl).trans
    (State.enterSilent_decidesFor _ n)

theorem State.startNote_decidesFor (s : State) (n : StringNo) (pitch : Int) :
    s.DecidesFor (s.startNote n pitch) n := by
  refine (s.updTracker_decidesFor n ?_).trans (State.publishTrack_decidesFor _ n _)
  exact fun _ => rfl

/-- The onset timer counts a sample, and the onset peak rises to the period peak of a kept mark (R82). -/
def State.onsetCounted (s : State) (n : StringNo) (kept : Option (Nat × Nat)) : State :=
  s.updTracker n fun t =>
    { t with onsetTimer := t.onsetTimer.map (· + 1),
             onsetPeak := match kept with
               | none => t.onsetPeak
               | some k => min 32767 (max t.onsetPeak k.1) }

/-- ONSET at a sample: counted, and then a start or a ghost (R82, R83). -/
theorem State.sampleOnset_eq (s : State) (n : StringNo) (kept : Option (Nat × Nat)) (accepted : Option Int) :
    s.sampleOnset n kept accepted =
      match accepted with
      | some pitch => (s.onsetCounted n kept).startNote n pitch
      | none =>
        let t := (s.onsetCounted n kept).trackers.get n
        if t.e < t.copy.gOff then (s.onsetCounted n kept).ghost n else s.onsetCounted n kept := by
  cases accepted <;> rfl

theorem State.sampleOnset_decidesFor (s : State) (n : StringNo) (kept : Option (Nat × Nat))
    (accepted : Option Int) : s.DecidesFor (s.sampleOnset n kept accepted) n := by
  have hcount : s.DecidesFor (s.onsetCounted n kept) n := s.updTracker_decidesFor n fun _ => rfl
  rw [State.sampleOnset_eq]
  cases accepted with
  | some pitch => exact hcount.trans (State.startNote_decidesFor _ n pitch)
  | none =>
    dsimp only
    split
    · exact hcount.trans (State.ghost_decidesFor _ n)
    · exact hcount

theorem State.acceptIf_decidesFor (s : State) (n : StringNo) (accepted : Option Int) :
    s.DecidesFor (s.acceptIf n accepted) n := by
  unfold State.acceptIf
  split
  · exact .refl s n
  · unfold State.accept
    dsimp only
    split
    · exact .refl s n
    · split
      · refine (s.updTracker_decidesFor n ?_).trans (State.publishTrack_decidesFor _ n _)
        exact fun _ => rfl
      · refine (s.updTracker_decidesFor n ?_).trans (State.publishTrack_decidesFor _ n _)
        exact fun _ => rfl

theorem State.repick_decidesFor (s : State) (n : StringNo) (ended : Nat) :
    s.DecidesFor (s.repick n ended) n :=
  (s.publishTrack_decidesFor n _).trans (State.beginOnset_decidesFor _ n ended)

theorem State.sampleSounding_decidesFor (s : State) (n : StringNo) (kept : Option (Nat × Nat))
    (accepted : Option Int) : s.DecidesFor (s.sampleSounding n kept accepted) n := by
  unfold State.sampleSounding
  split
  · exact s.repick_decidesFor n _
  · exact ((s.acceptIf_decidesFor n _).trans (State.updTracker_decidesFor _ n fun t => by
      split <;> rfl)).trans (State.updTracker_decidesFor _ n fun _ => rfl)

theorem State.sampleReleasing_decidesFor (s : State) (n : StringNo) (kept : Option (Nat × Nat))
    (accepted : Option Int) : s.DecidesFor (s.sampleReleasing n kept accepted) n := by
  unfold State.sampleReleasing
  split
  · exact s.repick_decidesFor n _
  · have hreturn := (s.acceptIf_decidesFor n accepted).trans (State.updTracker_decidesFor _ n (f := fun t =>
      if t.state = .releasing then
        if t.copy.gOn ≤ t.e then { t with state := .sounding, releaseTimer := none }
        else { t with releaseTimer := t.releaseTimer.map (· - 1) }
      else t) fun t => by split_ifs <;> rfl)
    dsimp only
    split
    · exact hreturn
    · exact hreturn.trans (State.updTracker_decidesFor _ n fun _ => rfl)

theorem State.finishTracker_decidesFor (s : State) (n : StringNo) : s.DecidesFor (s.finishTracker n) n := by
  have hcleared (t : Tracker) : t.clearedHistory.prevY = t.prevY := rfl
  have hstall (t : State) : t.DecidesFor (t.takeStall n) n := by
    unfold State.takeStall
    split
    · exact t.updTracker_decidesFor n hcleared
    · exact .refl t n
  have htimeout (t : State) : t.DecidesFor (t.takeTimeout n) n := by
    unfold State.takeTimeout
    split
    · exact t.ghost_decidesFor n
    · exact .refl t n
  have hrelease (t : State) : t.DecidesFor (t.takeRelease n) n := by
    unfold State.takeRelease
    split
    · exact (t.publishTrack_decidesFor n _).trans (State.enterSilent_decidesFor _ n)
    · exact .refl t n
  have hlevel (t : State) : t.DecidesFor (t.takeLevel n) n := by
    unfold State.takeLevel
    split
    · exact (t.publishTrack_decidesFor n _).trans (State.updTracker_decidesFor _ n fun _ => rfl)
    · exact .refl t n
  exact (((hstall s).trans (htimeout _)).trans (hrelease _)).trans (hlevel _)

/-! ### A sample -/

/-- The measuring stages' tracker, and in MUTED the tracker that keeps the sample alone (R50). -/
def State.sampled (s : State) (n : StringNo) (y : Int) : Tracker :=
  let t := (s.trackers.get n).applyClears
  if t.state = .muted then { t with prevY := y }
  else (t.measure s.siu.rate s.store.global.offset s.siu.stamp y).tracker

/-- What the state machine of tracker n decides once the sample has been measured (R77, R80 to R88). -/
def State.decideSample (s : State) (n : StringNo) (st : TrackState) (r : Measurement) : State :=
  match st with
  | .muted => s
  | .silent => if r.tracker.copy.gOn ≤ r.tracker.e then s.beginOnset n r.tracker.e else s
  | .onset => s.sampleOnset n r.kept r.accepted
  | .sounding => s.sampleSounding n r.kept r.accepted
  | .releasing => s.sampleReleasing n r.kept r.accepted

/-- A sample is measured and then decided on, and in MUTED it is kept alone (R50, R77). -/
theorem State.trackerSample_eq (s : State) (n : StringNo) (y : Int) : s.trackerSample n y =
    (s.updTracker n fun _ => s.sampled n y).decideSample n (s.trackers.get n).applyClears.state
      ((s.trackers.get n).applyClears.measure s.siu.rate s.store.global.offset s.siu.stamp y) := by
  unfold State.trackerSample State.sampled State.decideSample
  dsimp only
  cases (s.trackers.get n).applyClears.state with
  | muted => rfl
  | silent => rfl
  | onset => rfl
  | sounding => rfl
  | releasing => rfl

theorem State.sampled_prevY (s : State) (n : StringNo) (y : Int) : (s.sampled n y).prevY = y := by
  unfold State.sampled
  dsimp only
  split
  · rfl
  · rfl

theorem State.decideSample_decidesFor (s : State) (n : StringNo) (st : TrackState) (r : Measurement) :
    s.DecidesFor (s.decideSample n st r) n := by
  cases st with
  | muted => exact .refl s n
  | silent =>
    unfold State.decideSample
    dsimp only
    split
    · exact s.beginOnset_decidesFor n _
    · exact .refl s n
  | onset => exact s.sampleOnset_decidesFor n _ _
  | sounding => exact s.sampleSounding_decidesFor n _ _
  | releasing => exact s.sampleReleasing_decidesFor n _ _

/-- The sample of a tracker is its last sample behind it (R50). -/
theorem State.trackerSample_prevY (s : State) (n : StringNo) (y : Int) :
    ((s.trackerSample n y).trackers.get n).prevY = y := by
  rw [State.trackerSample_eq, (State.decideSample_decidesFor _ n _ _).prevY, State.updTracker_same,
    State.sampled_prevY]

/-- A tracker's sample changes no other tracker (R77). -/
theorem State.trackerSample_other (s : State) {n m : StringNo} (y : Int) (h : m ≠ n) :
    (s.trackerSample n y).trackers.get m = s.trackers.get m := by
  rw [State.trackerSample_eq, (State.decideSample_decidesFor _ n _ _).other m h, State.updTracker_get, if_neg h]

/-! ### What a tracker's sample reads -/

/-- All that tracker n's sample reads is the same: its context, rate and stamp, the records and the floors. -/
structure State.SameFor (s t : State) (n : StringNo) : Prop where
  tracker : t.trackers.get n = s.trackers.get n
  rate : t.siu.rate = s.siu.rate
  stamp : t.siu.stamp = s.siu.stamp
  store : t.store = s.store
  floors : t.link.floors = s.link.floors

theorem State.SameFor.refl (s : State) (n : StringNo) : s.SameFor s n := ⟨rfl, rfl, rfl, rfl, rfl⟩

theorem State.SameFor.symm {s t : State} {n : StringNo} (h : s.SameFor t n) : t.SameFor s n :=
  ⟨h.tracker.symm, h.rate.symm, h.stamp.symm, h.store.symm, h.floors.symm⟩

theorem State.SameFor.trans {s t u : State} {n : StringNo} (h : s.SameFor t n) (h' : t.SameFor u n) :
    s.SameFor u n :=
  ⟨h'.tracker.trans h.tracker, h'.rate.trans h.rate, h'.stamp.trans h.stamp, h'.store.trans h.store,
    h'.floors.trans h.floors⟩

/-- What tracker m decides, no other tracker reads (R77). -/
theorem State.DecidesFor.sameFor {s t : State} {n m : StringNo} (h : s.DecidesFor t m) (hn : n ≠ m) :
    s.SameFor t n :=
  ⟨h.other n hn, by rw [h.siu], by rw [h.siu], h.store, by rw [h.link]⟩

/-- Two changes of tracker n that make the same of it leave the same to read. -/
theorem State.SameFor.decided {s t s' t' : State} {n : StringNo} (h : s.SameFor t n)
    (hs : s.DecidesFor s' n) (ht : t.DecidesFor t' n) (hn : t'.trackers.get n = s'.trackers.get n) :
    s'.SameFor t' n :=
  ⟨hn, by rw [ht.siu, hs.siu, h.rate], by rw [ht.siu, hs.siu, h.stamp], by rw [ht.store, hs.store, h.store],
    by rw [ht.link, hs.link, h.floors]⟩

theorem State.SameFor.updTracker {s t : State} {n : StringNo} (h : s.SameFor t n) (f : Tracker → Tracker) :
    (s.updTracker n f).SameFor (t.updTracker n f) n :=
  ⟨by rw [State.updTracker_same, State.updTracker_same, h.tracker], h.rate, h.stamp, h.store, h.floors⟩

theorem State.SameFor.publishTrack {s t : State} {n : StringNo} (h : s.SameFor t n) (k : TrackKind) :
    (s.publishTrack n k).SameFor (t.publishTrack n k) n :=
  h.decided (s.publishTrack_decidesFor n k) (t.publishTrack_decidesFor n k) (by simp [h.tracker])

theorem State.SameFor.enterSilent {s t : State} {n : StringNo} (h : s.SameFor t n) :
    (s.enterSilent n).SameFor (t.enterSilent n) n := by
  obtain ⟨-, hs, -⟩ := s.enterSilent_spec n
  obtain ⟨-, ht, -⟩ := t.enterSilent_spec n
  refine h.decided (s.enterSilent_decidesFor n) (t.enterSilent_decidesFor n) ?_
  rw [hs, ht, h.tracker, State.silentEntry_congr h.store h.floors]

theorem State.SameFor.beginOnset {s t : State} {n : StringNo} (h : s.SameFor t n) (peak : Nat) :
    (s.beginOnset n peak).SameFor (t.beginOnset n peak) n := by
  obtain ⟨-, hs, -⟩ := s.beginOnset_spec n peak
  obtain ⟨-, ht, -⟩ := t.beginOnset_spec n peak
  refine h.decided (s.beginOnset_decidesFor n peak) (t.beginOnset_decidesFor n peak) ?_
  rw [hs, ht, h.tracker]
  simp only [State.onsetEntry, State.copyFor, State.floorOf, h.store, h.floors, h.stamp]

theorem State.SameFor.repick {s t : State} {n : StringNo} (h : s.SameFor t n) (ended : Nat) :
    (s.repick n ended).SameFor (t.repick n ended) n :=
  (h.publishTrack _).beginOnset ended

theorem State.SameFor.sampleOnset {s t : State} {n : StringNo} (h : s.SameFor t n)
    (kept : Option (Nat × Nat)) (accepted : Option Int) :
    (s.sampleOnset n kept accepted).SameFor (t.sampleOnset n kept accepted) n := by
  have hcount : (s.onsetCounted n kept).SameFor (t.onsetCounted n kept) n := h.updTracker _
  rw [State.sampleOnset_eq, State.sampleOnset_eq]
  cases accepted with
  | some pitch => exact (hcount.updTracker _).publishTrack _
  | none =>
    dsimp only
    rw [hcount.tracker]
    split
    · exact (hcount.updTracker _).enterSilent
    · exact hcount

theorem State.SameFor.acceptIf {s t : State} {n : StringNo} (h : s.SameFor t n) (accepted : Option Int) :
    (s.acceptIf n accepted).SameFor (t.acceptIf n accepted) n := by
  unfold State.acceptIf
  cases accepted with
  | none => exact h
  | some pitch =>
    dsimp only
    unfold State.accept
    dsimp only
    rw [h.tracker]
    split
    · exact h
    · split
      · exact (h.updTracker _).publishTrack _
      · exact (h.updTracker _).publishTrack _

theorem State.SameFor.sampleSounding {s t : State} {n : StringNo} (h : s.SameFor t n)
    (kept : Option (Nat × Nat)) (accepted : Option Int) :
    (s.sampleSounding n kept accepted).SameFor (t.sampleSounding n kept accepted) n := by
  unfold State.sampleSounding
  rw [h.tracker]
  split
  · exact h.repick _
  · exact ((h.acceptIf _).updTracker _).updTracker _

theorem State.SameFor.sampleReleasing {s t : State} {n : StringNo} (h : s.SameFor t n)
    (kept : Option (Nat × Nat)) (accepted : Option Int) :
    (s.sampleReleasing n kept accepted).SameFor (t.sampleReleasing n kept accepted) n := by
  unfold State.sampleReleasing
  rw [h.tracker]
  split
  · exact h.repick _
  · dsimp only
    rw [((h.acceptIf accepted).updTracker _).tracker]
    split
    · exact (h.acceptIf _).updTracker _
    · exact ((h.acceptIf _).updTracker _).updTracker _

theorem State.SameFor.decideSample {s t : State} {n : StringNo} (h : s.SameFor t n) (st : TrackState)
    (r : Measurement) : (s.decideSample n st r).SameFor (t.decideSample n st r) n := by
  cases st with
  | muted => exact h
  | silent =>
    unfold State.decideSample
    dsimp only
    split
    · exact h.beginOnset _
    · exact h
  | onset => exact h.sampleOnset _ _
  | sounding => exact h.sampleSounding _ _
  | releasing => exact h.sampleReleasing _ _

/-- A tracker's sample makes the same of the same context, whatever else the part holds (R50, R77). -/
theorem State.SameFor.trackerSample {s t : State} {n : StringNo} (h : s.SameFor t n) (y : Int) :
    (s.trackerSample n y).SameFor (t.trackerSample n y) n := by
  rw [State.trackerSample_eq, State.trackerSample_eq, h.tracker, h.rate, h.stamp, h.store]
  have hsampled : t.sampled n y = s.sampled n y := by
    unfold State.sampled
    rw [h.tracker, h.rate, h.stamp, h.store]
  rw [hsampled]
  exact (h.updTracker _).decideSample _ _

end Sys2Proof.Machine
end

section
/-!
PROOF. A conversion set gives each tracker its own sample, before or behind the link monitor's changes, and
those changes are rows of the set (R27, R50, R77, R94).
-/

namespace Sys2Proof.Machine

/-! ### The trackers in turn -/

/-- Of the changes that strings make in turn, tracker n reads its own alone (R77). -/
theorem State.foldl_sameFor {f : StringNo → State → State} {s : State} {n : StringNo}
    (hother : ∀ (m : StringNo) (t : State), n ≠ m → t.SameFor (f m t) n)
    (hown : ∀ t : State, s.SameFor t n → (f n s).SameFor (f n t) n) (l : List StringNo) :
    ∀ t : State, l.Nodup →
      (n ∈ l → s.SameFor t n → (f n s).SameFor (l.foldl (fun t n => f n t) t) n) ∧
      (n ∉ l → t.SameFor (l.foldl (fun t n => f n t) t) n) := by
  induction l with
  | nil => exact fun t _ => ⟨nofun, fun _ => .refl t n⟩
  | cons m l ih =>
    intro t hnodup
    obtain ⟨hm, hl⟩ := List.nodup_cons.mp hnodup
    obtain ⟨hin, hout⟩ := ih (f m t) hl
    refine ⟨fun hn ht => ?_, fun hn => ?_⟩
    · by_cases hnm : n = m
      · subst hnm
        exact (hown t ht).trans (hout hm)
      · exact hin ((List.mem_cons.mp hn).resolve_left hnm) (ht.trans (hother m t hnm))
    · obtain ⟨hnm, hnl⟩ := not_or.mp (mt List.mem_cons.mpr hn)
      exact (hother m t hnm).trans (hout hnl)

theorem State.trackerSample_sameFor (s : State) {n m : StringNo} (y : Int) (h : n ≠ m) :
    s.SameFor (s.trackerSample m y) n :=
  ⟨s.trackerSample_other y h, by simp, by simp, by simp, by simp⟩

/-- Each tracker whose turn it is makes of its sample what it would make of it alone (R50, R77). -/
theorem State.sampleTrackers_sameFor (s : State) (turn : StringNo → Bool) (v : Six (Option Int))
    (n : StringNo) : (if turn n then s.trackerSample n (conditionedSample (v.get n)) else s).SameFor
      (s.sampleTrackers turn v) n := by
  have hfold := State.foldl_sameFor (s := s) (n := n)
    (f := fun n t => if turn n then t.trackerSample n (conditionedSample (v.get n)) else t)
    (fun m t hm => by
      split
      · exact t.trackerSample_sameFor _ hm
      · exact .refl t n)
    (fun t ht => by
      split
      · exact ht.trackerSample _
      · exact ht)
    StringNo.all s (by decide)
  exact hfold.1 n.mem_all (.refl s n)

theorem State.sampleTrackers_own {s : State} {turn : StringNo → Bool} {n : StringNo} (h : turn n = true)
    (v : Six (Option Int)) : (s.sampleTrackers turn v).trackers.get n =
      (s.trackerSample n (conditionedSample (v.get n))).trackers.get n := by
  have hsame := s.sampleTrackers_sameFor turn v n
  rw [if_pos h] at hsame
  exact hsame.tracker

theorem State.sampleTrackers_waits {s : State} {turn : StringNo → Bool} {n : StringNo} (h : turn n = false)
    (v : Six (Option Int)) : (s.sampleTrackers turn v).trackers.get n = s.trackers.get n := by
  have hsame := s.sampleTrackers_sameFor turn v n
  rw [if_neg (by simp [h])] at hsame
  exact hsame.tracker

/-! ### What the trackers' samples meet (R94) -/

/-- Up to the trackers a set changes nothing that a tracker reads. -/
theorem State.setTapped_sameFor (s : State) (pins : SetInputs) (order : SetOrder) (n : StringNo) :
    s.SameFor (s.setTapped pins order) n := by
  have hsample : s.SameFor (s.siuSample pins) n := ⟨rfl, rfl, rfl, rfl, rfl⟩
  have hcond (t : State) (x v) : t.SameFor (t.conditionSample x v) n := ⟨rfl, rfl, rfl, rfl, rfl⟩
  have hwindow (t : State) (d) : t.SameFor (t.measureWindow d) n :=
    ⟨by simp, by simp, by simp, by simp, by
      rw [State.measureWindow_link]
      split
      · rfl
      · rfl⟩
  have htap (t : State) (d) : t.SameFor (t.tapSample d) n := ⟨by simp, by simp, by simp, by simp, by simp⟩
  have hend (t : State) : t.SameFor t.captureEnd n := ⟨by simp, by simp, by simp, by simp, by simp⟩
  unfold State.setTapped
  dsimp only
  have htapped := (((hsample.trans (hcond _ (s.inputSamples pins) (s.setValues pins))).trans
    (hwindow _ ((s.siuSample pins).dcSamples (s.inputSamples pins)))).trans
      (htap _ ((s.siuSample pins).dcSamples (s.inputSamples pins))))
  split
  · exact htapped.trans (hend _)
  · exact htapped

/-- The handling of a set meets the trackers of the settled part, at the next stamp (R7, R94). -/
theorem State.met_sameFor {s : State} (h : s.settled = true) (n : StringNo) :
    State.SameFor { s with siu := { s.siu with stamp := s.siu.stamp + 1 } } s.met n := by
  have hfinish := State.finishSet_of_settled h
  refine ⟨by simp [State.met, hfinish], ?_, ?_, s.met_store, ?_⟩
  · rw [State.met_siu, hfinish]
  · rw [State.met_siu, hfinish]
  · rw [State.met_link, hfinish]

/-- A set in which no tracker takes the monitor's changes first (R94). -/
theorem State.conversionSet_sampled {order : SetOrder} (h : order.monitorFirst = 0) (s : State)
    (pins : SetInputs) : s.conversionSet pins order = (s.met.setSampled pins order).countIdles := by
  rw [State.conversionSet_eq, State.handleSet_eq, if_pos h]

/-- A set in which the trackers of the mask take the monitor's changes first (R94). -/
theorem State.conversionSet_masked {order : SetOrder} (h : order.monitorFirst ≠ 0) (s : State)
    (pins : SetInputs) : s.conversionSet pins order =
      (((s.met.setSampled pins order).monitorChanges order.windowFirst).sampleTrackers (takesFirst order)
        (s.met.setValues pins)).countIdles := by
  rw [State.conversionSet_eq, State.handleSet_eq, if_neg h]

theorem takesFirst_of_zero {order : SetOrder} (h : order.monitorFirst = 0) (n : StringNo) :
    takesFirst order n = false := by
  simp [takesFirst, h]

theorem State.setSampled_own {order : SetOrder} {n : StringNo} (h : takesFirst order n = false) (s : State)
    (pins : SetInputs) : (s.setSampled pins order).trackers.get n =
      ((s.setTapped pins order).trackerSample n (conditionedSample ((s.setValues pins).get n))).trackers.get n :=
  State.sampleTrackers_own (by simp [h]) _

theorem State.setSampled_keeps (s : State) (pins : SetInputs) (order : SetOrder) :
    (s.setSampled pins order).siu = (s.setTapped pins order).siu ∧
    (s.setSampled pins order).link = (s.setTapped pins order).link ∧
    (s.setSampled pins order).cond = (s.setTapped pins order).cond ∧
    (s.setSampled pins order).store = (s.setTapped pins order).store := by
  simp [State.setSampled]

theorem trackersSampleFirst : Claims.TrackersSampleFirst := by
  intro src pins windowFirst captureFirst s n hsrc hset
  have hsame := ((State.met_sameFor hset n).trans (s.met.setTapped_sameFor pins
    ⟨0, windowFirst, captureFirst⟩ n)).trackerSample (conditionedSample ((s.met.setValues pins).get n))
  have hown : ((s.conversionSet pins ⟨0, windowFirst, captureFirst⟩).trackers.get n) =
      ((s.met.setTapped pins ⟨0, windowFirst, captureFirst⟩).trackerSample n
        (conditionedSample ((s.met.setValues pins).get n))).trackers.get n := by
    rw [State.conversionSet_sampled rfl, (State.countIdles_keeps _).2.2.2.1,
      State.setSampled_own (takesFirst_of_zero rfl n)]
  refine ⟨_, _, exec_conversionSet_of_source pins _ hsrc, ?_, hown.trans hsame.tracker⟩
  rw [hown, State.trackerSample_prevY]

/-! ### The monitor's changes leave the last samples (R27, R94) -/

/-- No tracker has taken another sample. -/
def State.SamplesKept (s t : State) : Prop := ∀ n, (t.trackers.get n).prevY = (s.trackers.get n).prevY

theorem State.SamplesKept.of_eq {s t : State} (h : t.trackers = s.trackers) : s.SamplesKept t :=
  fun n => by rw [h]

theorem State.SamplesKept.trans {s t u : State} (h : s.SamplesKept t) (h' : t.SamplesKept u) :
    s.SamplesKept u :=
  fun n => (h' n).trans (h n)

theorem State.DecidesFor.samplesKept {s t : State} {m : StringNo} (h : s.DecidesFor t m) : s.SamplesKept t := by
  intro n
  by_cases hn : n = m
  · rw [hn, h.prevY]
  · rw [h.other n hn]

theorem State.finishTrackers_samplesKept (s : State) : s.SamplesKept s.finishTrackers :=
  State.forStrings_inv (P := s.SamplesKept)
    (fun n t ht => ht.trans (t.finishTracker_decidesFor n).samplesKept) (.of_eq rfl)

theorem State.dropChannel_samplesKept (s : State) (i : Sin) : s.SamplesKept (s.dropChannel i) := by
  cases hs : s.store.global.stringOf i with
  | none =>
    rw [State.dropChannel_of_none hs]
    exact .of_eq rfl
  | some n =>
    rw [State.dropChannel_of_some hs]
    have hmuted : s.SamplesKept (s.muteDropped i n) := (State.enterMuted_decidesFor _ n .mute).samplesKept
    exact hmuted.trans (.of_eq (by simp))

theorem State.finishInput_samplesKept (s : State) (i : Sin) : s.SamplesKept (s.finishInput i) := by
  have hepisode : s.SamplesKept (s.takeEpisode i) := .of_eq (by simp)
  refine hepisode.trans ?_
  rw [State.finishInput]
  generalize s.takeEpisode i = t
  by_cases hl : (t.siu.inputs.get i).longDue = true
  · have hreport : t.SamplesKept (t.reportLong i) := .of_eq rfl
    rw [State.takeStuckLong_of_due hl]
    split
    · exact hreport.trans (State.dropChannel_samplesKept _ i)
    · exact hreport
  · rw [State.takeStuckLong_of_not_due (by simpa using hl)]
    exact .of_eq rfl

theorem State.finishInputs_samplesKept (s : State) : s.SamplesKept s.finishInputs := by
  have hfold (l : List Sin) : ∀ t : State, s.SamplesKept t →
      s.SamplesKept (l.foldl (fun t i => t.finishInput i) t) := by
    induction l with
    | nil => exact fun t ht => ht
    | cons i l ih => exact fun t ht => ih _ (ht.trans (t.finishInput_samplesKept i))
  exact hfold Sin.all s (.of_eq rfl)

theorem State.takeWindowEnd_samplesKept (s : State) : s.SamplesKept s.takeWindowEnd := by
  intro n
  by_cases h : s.windowDue = true
  · rw [State.takeWindowEnd_tracker h]
    split
    · rfl
    · rfl
  · rw [State.takeWindowEnd_of_not_due (by simpa using h)]

theorem State.monitorChanges_samplesKept (s : State) (windowFirst : Bool) :
    s.SamplesKept (s.monitorChanges windowFirst) := by
  unfold State.monitorChanges
  split
  · exact (s.finishTrackers_samplesKept.trans (State.takeWindowEnd_samplesKept _)).trans
      (State.finishInputs_samplesKept _)
  · exact (s.finishTrackers_samplesKept.trans (State.finishInputs_samplesKept _)).trans
      (State.takeWindowEnd_samplesKept _)

/-! ### Either order (R94) -/

theorem trackersSampleInEitherOrder : Claims.TrackersSampleInEitherOrder := by
  intro src pins order s hsrc hset hmask
  have hmet (n : StringNo) : s.met.trackers.get n = s.trackers.get n := (State.met_sameFor hset n).tracker
  have hu := s.conversionSet_sampled (order := { order with monitorFirst := 0 }) rfl pins
  have ht := State.conversionSet_masked hmask s pins
  refine ⟨_, s.met.setSampled pins order, _, fun n => conditionedSample ((s.met.setValues pins).get n),
    exec_conversionSet_of_source pins _ hsrc, exec_conversionSet_of_source pins _ hsrc, ?_⟩
  rw [hu, ht]
  have htapped : s.met.setTapped pins { order with monitorFirst := 0 } = s.met.setTapped pins order := rfl
  simp only [State.countIdles_keeps, State.sampleTrackers_keeps, State.setSampled_keeps, htapped, true_and]
  intro n
  by_cases hn : order.monitorFirst.getLsbD (n.number - 1) = true
  · have hown := State.sampleTrackers_own (s := (s.met.setSampled pins order).monitorChanges order.windowFirst)
      (show takesFirst order n = true from hn) (s.met.setValues pins)
    have hwaits : (s.met.setSampled pins order).trackers.get n = s.trackers.get n := by
      rw [State.setSampled, State.sampleTrackers_waits (by simp [takesFirst, hn]),
        (s.met.setTapped_sameFor pins order n).tracker, hmet]
    refine ⟨by rw [hown, State.trackerSample_prevY], ?_⟩
    rw [if_pos hn]
    exact ⟨hwaits, hown⟩
  · have hlater : takesFirst order n = false := Bool.not_eq_true _ ▸ hn
    have hkept := State.sampleTrackers_waits
      (s := (s.met.setSampled pins order).monitorChanges order.windowFirst) hlater (s.met.setValues pins)
    have hfirst := State.setSampled_own hlater s.met pins
    refine ⟨?_, ?_⟩
    · rw [hkept, State.monitorChanges_samplesKept, hfirst, State.trackerSample_prevY]
    · rw [if_neg hn]
      refine ⟨?_, hkept⟩
      rw [hfirst, State.setSampled_own (takesFirst_of_zero rfl n), htapped]

/-! ### The rows of the monitor's changes (R27, R77, R94) -/

/-- A row is taken where the part still runs. -/
def runRow (r : Result) (c : Instr) : Result :=
  match r with
  | .next t => exec c t
  | stop => stop

/-- Rows that make a change for each of a list in turn make all the changes in turn. -/
theorem foldl_runRow {α : Type} {P : State → Prop} {rows : α → List Instr} {f : State → α → State}
    (h : ∀ a t, P t → (rows a).foldl runRow (.next t) = .next (f t a) ∧ P (f t a)) (l : List α) :
    ∀ t, P t → (l.flatMap rows).foldl runRow (.next t) = .next (l.foldl f t) := by
  induction l with
  | nil => exact fun t _ => rfl
  | cons a l ih =>
    intro t ht
    obtain ⟨hrow, hf⟩ := h a t ht
    rw [List.flatMap_cons, List.foldl_append, hrow, ih _ hf, List.foldl_cons]

/-- The counts that a tracker's sample can reach are its rows (R60, R83, R87, R88). -/
theorem foldl_runRow_counts (s : State) :
    (StringNo.all.flatMap fun n => [Instr.stall n, .onsetTimeout n, .releaseTimerEnd n, .levelTimer n]).foldl
      runRow (.next s) = .next s.finishTrackers :=
  foldl_runRow (P := fun _ => True) (f := fun t n => t.finishTracker n) (fun _ _ _ => ⟨rfl, trivial⟩) _ s trivial

/-- The trackers' decisions for the sample are complete. -/
theorem State.NoneDue.quiet {s : State} (h : s.NoneDue) : s.trackersQuiet = true :=
  List.all_eq_true.mpr fun n _ => by simp [h n]

/-- With the trackers' decisions complete the events of the inputs are their rows (R5, R6, R27). -/
theorem foldl_runRow_reports {s : State} (h : s.NoneDue) :
    (Sin.all.flatMap fun i => [Instr.stuckEpisodeBegin i, .stuckLong i]).foldl runRow (.next s) =
      .next s.finishInputs := by
  refine foldl_runRow (P := State.NoneDue) (f := fun t i => t.finishInput i) (fun i t ht => ⟨?_, ht.finishInput i⟩)
    _ s h
  have hepisode : (t.takeEpisode i).NoneDue := ht.of_eq (by simp)
  exact exec_stuckLong_of_quiet i hepisode.quiet

theorem exec_settleWindowEnd_of_quiet {s : State} (h : s.trackersQuiet = true) :
    exec .settleWindowEnd s = .next s.takeWindowEnd := by
  rw [exec_settleWindowEnd, State.finishTrackers_of_quiet h]
  by_cases hw : s.windowDue = true
  · rw [if_pos hw]
  · rw [if_neg hw, State.takeWindowEnd_of_not_due (by simpa using hw)]

theorem runRow_settleWindowEnd {s : State} (h : s.NoneDue) :
    runRow (.next s) .settleWindowEnd = .next s.takeWindowEnd :=
  exec_settleWindowEnd_of_quiet h.quiet

theorem monitorChangesAreRows : Claims.MonitorChangesAreRows := by
  intro s windowFirst counts reports rows
  have hquiet := s.finishTrackers_noneDue
  have hrows : rows.foldl runRow (.next s) = .next (s.monitorChanges windowFirst) := by
    rw [List.foldl_append, foldl_runRow_counts]
    cases windowFirst
    · rw [if_neg Bool.false_ne_true, List.foldl_append, foldl_runRow_reports hquiet, List.foldl_cons,
        List.foldl_nil, runRow_settleWindowEnd hquiet.finishInputs, State.monitorChanges,
        if_neg Bool.false_ne_true]
    · rw [if_pos rfl, List.foldl_cons, runRow_settleWindowEnd hquiet,
        foldl_runRow_reports hquiet.takeWindowEnd, State.monitorChanges, if_pos rfl]
  exact hrows

/-- Settles O19: a tracker reads only its own part, so each makes of its sample what it would alone. -/
theorem conversionSetSamplesEveryTracker : Obligations.ConversionSetSamplesEveryTracker :=
  ⟨trackersSampleFirst, trackersSampleInEitherOrder, monitorChangesAreRows⟩

end Sys2Proof.Machine
end

section
/-!
SUPPORT. What the other blocks make of a learn: they leave it, end one that can be ended, or begin the capture of
an armed one (R122, R126, R127, R128). So a learn that nothing can end is left as it is.
-/

namespace Sys2Proof.Machine

/-! ### The three outcomes -/

/-- The engine behind what it was told: as it was; or, where the learn could be ended, IDLE, or in the capture
that an onset of the target has begun. -/
def Learn.Hears (l m : Learn) : Prop :=
  m = l ∨ l.state.open? ≠ none ∧
    (m.state = .idle ∨ ∃ g ms, l.state = .armed g ms ∧ m.state = .capture g 0 ⟨0, 0, 0⟩ none)

theorem Learn.Hears.refl (l : Learn) : l.Hears l := .inl rfl

theorem Learn.Hears.of_eq {l m : Learn} (h : m = l) : l.Hears m := .inl h

theorem Learn.Hears.of_ended {l m : Learn} (h : l.state.open? ≠ none) (hm : m.state = .idle) : l.Hears m :=
  .inr ⟨h, .inl hm⟩

/-- A learn that nothing can end is left as it is (R124). -/
theorem Learn.Hears.of_closed {l m : Learn} (h : l.Hears m) (hl : l.state.open? = none) : m = l := by
  rcases h with h | ⟨hopen, -⟩
  · exact h
  · exact absurd hl hopen

/-- A capture is left as it is or ended (R126, R127). -/
theorem Learn.Hears.of_capture {l m : Learn} (h : l.Hears m) {g : Target} {count : Nat} {k : Peaks}
    {handed : Option Measured} (hl : l.state = .capture g count k handed) : m = l ∨ m.state = .idle := by
  rcases h with h | ⟨-, h | ⟨_, _, ha, -⟩⟩
  · exact .inl h
  · exact .inr h
  · rw [hl] at ha
    cases ha

theorem Learn.Hears.trans {l m n : Learn} (h : l.Hears m) (h' : m.Hears n) : l.Hears n := by
  rcases h with rfl | ⟨hopen, hm | ⟨g, ms, ha, hm⟩⟩
  · exact h'
  · exact .inr ⟨hopen, .inl (by rw [h'.of_closed (by rw [hm]; rfl), hm])⟩
  · rcases h'.of_capture hm with rfl | hn
    · exact .inr ⟨hopen, .inr ⟨g, ms, ha, hm⟩⟩
    · exact .inr ⟨hopen, .inl hn⟩

/-- Nothing that the engine is told hands values to the store (R124). -/
theorem Learn.Hears.handedOver {l m : Learn} (h : l.Hears m) {x : Measured}
    (hx : m.state.handedOver = some x) : l.state.handedOver = some x := by
  rcases h with rfl | ⟨-, hm | ⟨_, _, -, hm⟩⟩
  · exact hx
  · rw [hm] at hx
    cases hx
  · rw [hm] at hx
    cases hx

/-! ### What the engine is told (R122, R126, R127, R128) -/

theorem State.failLearn_hears (s : State) (r : LearnReason) : s.learn.Hears (s.failLearn r).learn := by
  cases h : s.learn.state.open? with
  | none => exact .of_eq (by rw [State.failLearn_of_closed r h])
  | some g => exact .of_ended (by simp [h]) (by rw [State.failLearn_of_open r h]; rfl)

theorem State.learnOnset_hears (s : State) (n : StringNo) : s.learn.Hears (s.learnOnset n).learn := by
  unfold State.learnOnset
  split
  · exact .refl _
  · next g ho =>
    split
    · split
      · next g' ms ha =>
        split
        · have hg : g' = g := by simpa [ha, LearnState.open?] using ho
          exact .inr ⟨by simp [ho], .inr ⟨g, ms, hg ▸ ha, rfl⟩⟩
        · exact .refl _
      · exact .refl _
    · exact s.failLearn_hears _

theorem State.learnDropped_hears (s : State) (n : StringNo) : s.learn.Hears (s.learnDropped n).learn := by
  unfold State.learnDropped
  split
  · exact .refl _
  · split
    · exact s.failLearn_hears _
    · exact .refl _

theorem State.learnProfileCommit_hears (s : State) (k : Bank) (n : StringNo) :
    s.learn.Hears (s.learnProfileCommit k n).learn := by
  unfold State.learnProfileCommit
  split
  · exact .refl _
  · split
    · exact s.failLearn_hears _
    · exact .refl _

theorem State.learnGlobalCommit_hears (s : State) (old new : Global) :
    s.learn.Hears (s.learnGlobalCommit old new).learn := by
  unfold State.learnGlobalCommit
  split
  · exact .refl _
  · split
    · exact s.failLearn_hears _
    · exact .refl _

theorem State.armEnd_hears (s : State) : s.learn.Hears s.armEnd.learn := by
  unfold State.armEnd
  split
  · exact s.failLearn_hears _
  · exact .refl _

/-! ### The trackers -/

theorem State.beginOnset_hears (s : State) (n : StringNo) (peak : Nat) :
    s.learn.Hears (s.beginOnset n peak).learn := by
  unfold State.beginOnset
  dsimp only
  generalize ht : State.updTracker _ n _ = t
  have hlearn : t.learn = s.learn := by simp [← ht]
  exact hlearn ▸ t.learnOnset_hears n

theorem State.repick_hears (s : State) (n : StringNo) (ended : Nat) : s.learn.Hears (s.repick n ended).learn := by
  have hlearn : (s.publishTrack n (.ended .repick)).learn = s.learn := by simp
  exact hlearn ▸ State.beginOnset_hears _ n ended

/-- A tracker's sample tells the engine of an onset or of nothing (R80, R85). -/
theorem State.decideSample_hears (s : State) (n : StringNo) (st : TrackState) (r : Measurement) :
    s.learn.Hears (s.decideSample n st r).learn := by
  cases st with
  | muted => exact .refl _
  | silent =>
    unfold State.decideSample
    dsimp only
    split
    · exact s.beginOnset_hears n _
    · exact .refl _
  | onset => exact .of_eq (by simp [State.decideSample])
  | sounding =>
    simp only [State.decideSample, State.sampleSounding]
    split
    · exact s.repick_hears n _
    · exact .of_eq (by simp)
  | releasing =>
    simp only [State.decideSample, State.sampleReleasing]
    split
    · exact s.repick_hears n _
    · exact .of_eq (by split <;> simp)

theorem State.trackerSample_hears (s : State) (n : StringNo) (y : Int) :
    s.learn.Hears (s.trackerSample n y).learn := by
  rw [State.trackerSample_eq]
  exact State.decideSample_hears (s.updTracker n fun _ => s.sampled n y) n _ _

theorem State.sampleTrackers_hears (s : State) (turn : StringNo → Bool) (v : Six (Option Int)) :
    s.learn.Hears (s.sampleTrackers turn v).learn :=
  State.forStrings_inv (P := fun t => s.learn.Hears t.learn) (fun n t ht => by
    split
    · exact ht.trans (t.trackerSample_hears n _)
    · exact ht) (.refl _)

/-! ### The link monitor (R127) -/

theorem State.leaveActive_hears (s : State) : s.learn.Hears s.leaveActive.learn := by
  have hlearn : s.muteAll.learn = s.learn := by simp
  have hfails (m : State) (k : Link) : m.learn.Hears (State.failLearn { m with link := k } .link).learn :=
    State.failLearn_hears { m with link := k } .link
  rw [State.leaveActive_eq, ← hlearn]
  exact hfails s.muteAll _

theorem State.enterLink_hears (s : State) (st : LinkState) : s.learn.Hears (s.enterLink st).learn := by
  have henters (t : State) : (State.raiseBoth { t with link := t.link.enter st } .link).learn = t.learn := rfl
  unfold State.enterLink
  dsimp only
  rw [henters]
  split
  · exact s.leaveActive_hears
  · exact .refl _

theorem State.dropChannel_hears (s : State) (i : Sin) : s.learn.Hears (s.dropChannel i).learn := by
  cases hs : s.store.global.stringOf i with
  | none =>
    rw [State.dropChannel_of_none hs]
    exact .refl _
  | some n =>
    have hlearn : ((s.muteDropped i n).setWidth.noticeWidth s.link.width).learn = s.learn := by simp
    rw [State.dropChannel_of_some hs]
    exact hlearn ▸ State.learnDropped_hears _ n

theorem State.takeStuckLong_hears (s : State) (i : Sin) : s.learn.Hears (s.takeStuckLong i).learn := by
  by_cases hl : (s.siu.inputs.get i).longDue = true
  · rw [State.takeStuckLong_of_due hl]
    split
    · exact (s.reportLong i).dropChannel_hears i
    · exact .refl _
  · rw [State.takeStuckLong_of_not_due (by simpa using hl)]
    exact .refl _

theorem State.finishInputs_hears (s : State) : s.learn.Hears s.finishInputs.learn := by
  have hfold (l : List Sin) : ∀ t : State, s.learn.Hears t.learn →
      s.learn.Hears (l.foldl (fun t i => t.finishInput i) t).learn := by
    induction l with
    | nil => exact fun t ht => ht
    | cons i l ih =>
      intro t ht
      have hepisode : (t.takeEpisode i).learn = t.learn := by simp
      exact ih _ ((hepisode ▸ ht).trans (State.takeStuckLong_hears _ i))
  exact hfold Sin.all s (.refl _)

/-- A window ends in SETTLING, so ACTIVE is not left at its end and no learn hears of it (R22, R127). -/
theorem State.takeWindowEnd_learn (s : State) : s.takeWindowEnd.learn = s.learn := by
  by_cases h : s.windowDue = true
  · obtain ⟨-, hlearn, -⟩ := State.takeWindowEnd_rest h
    exact hlearn
  · rw [State.takeWindowEnd_of_not_due (by simpa using h)]

theorem State.monitorChanges_hears (s : State) (windowFirst : Bool) :
    s.learn.Hears (s.monitorChanges windowFirst).learn := by
  have htrackers : s.finishTrackers.learn = s.learn := by simp
  unfold State.monitorChanges
  split
  · rw [← htrackers, ← State.takeWindowEnd_learn s.finishTrackers]
    exact State.finishInputs_hears _
  · rw [State.takeWindowEnd_learn, ← htrackers]
    exact State.finishInputs_hears _

end Sys2Proof.Machine
end

section
/-!
SUPPORT. The invariant of the records in its parts, and what every operation that commits nothing keeps of it
(R37, R100, R101, R102, R125).
-/

namespace Sys2Proof.Machine

/-! ### The invariant in its parts -/

/-- The stored records and the handed values are legal, and the digital inputs alone have no accumulator. -/
structure State.RecordsLegal (s : State) : Prop where
  global : s.store.global.legal = true
  profile : ∀ k n, (s.store.profile k n).legal = true
  handed : ∀ m, s.learn.state.handedOver = some m → m.legal = true
  accumulator : ∀ i, s.cond.dc.get i = .absent ↔ s.store.global.analog i = false

theorem State.recordsOk_iff (s : State) : s.recordsOk = true ↔ s.RecordsLegal := by
  have hacc (i : Sin) : (s.store.global.analog i == (s.cond.dc.get i != .absent)) = true ↔
      (s.cond.dc.get i = .absent ↔ s.store.global.analog i = false) := by
    rw [beq_iff_eq, Bool.eq_iff_iff, bne_iff_ne, ← Bool.not_eq_true, ← not_iff_not (a := _ = Accumulator.absent),
      not_not]
    exact iff_comm
  simp only [State.recordsOk, Bool.and_eq_true, List.all_eq_true, hacc, Option.all_eq_true]
  constructor
  · rintro ⟨⟨⟨hglobal, hprofile⟩, hhanded⟩, hacc⟩
    refine ⟨hglobal, fun k n => ?_, hhanded, fun i => hacc i i.mem_all⟩
    obtain ⟨ha, hb⟩ := hprofile n n.mem_all
    cases k with
    | a => exact ha
    | b => exact hb
  · rintro ⟨hglobal, hprofile, hhanded, hacc⟩
    exact ⟨⟨⟨hglobal, fun n _ => ⟨hprofile .a n, hprofile .b n⟩⟩, hhanded⟩, fun i _ => hacc i⟩

/-! ### What is kept where nothing is committed -/

/-- The records are as they were, no values are newly handed over, and no accumulator comes or goes. -/
structure State.RecordsKept (s t : State) : Prop where
  global : t.store.global = s.store.global
  banks : t.store.banks = s.store.banks
  handed : ∀ m, t.learn.state.handedOver = some m → s.learn.state.handedOver = some m
  accumulator : ∀ i, t.cond.dc.get i = .absent ↔ s.cond.dc.get i = .absent

theorem State.RecordsKept.refl (s : State) : s.RecordsKept s := ⟨rfl, rfl, fun _ => id, fun _ => Iff.rfl⟩

theorem State.RecordsKept.trans {s t u : State} (h : s.RecordsKept t) (h' : t.RecordsKept u) :
    s.RecordsKept u :=
  ⟨h'.global.trans h.global, h'.banks.trans h.banks, fun m hm => h.handed m (h'.handed m hm),
    fun i => (h'.accumulator i).trans (h.accumulator i)⟩

/-- What the engine hears of is all that it learns where store and Conditioner stay. -/
theorem State.RecordsKept.of_hears {s t : State} (hs : t.store = s.store) (hc : t.cond = s.cond)
    (hl : s.learn.Hears t.learn) : s.RecordsKept t :=
  ⟨by rw [hs], by rw [hs], fun _ => hl.handedOver, fun i => by rw [hc]⟩

theorem State.RecordsKept.of_eq {s t : State} (hs : t.store = s.store) (hc : t.cond = s.cond)
    (hl : t.learn = s.learn) : s.RecordsKept t :=
  .of_hears hs hc (.of_eq hl)

theorem State.RecordsKept.recordsOk {s t : State} (h : s.RecordsKept t) (hs : s.recordsOk = true) :
    t.recordsOk = true := by
  obtain ⟨hglobal, hprofile, hhanded, hacc⟩ := s.recordsOk_iff.mp hs
  refine t.recordsOk_iff.mpr
    ⟨h.global ▸ hglobal, fun k n => ?_, fun m hm => hhanded m (h.handed m hm), fun i => ?_⟩
  · rw [Store.profile, h.banks]
    exact hprofile k n
  · rw [h.accumulator, hacc, h.global]

theorem State.updPort_recordsKept (s : State) (p : Port) (f : PortIf → PortIf) :
    s.RecordsKept (s.updPort p f) := .of_eq rfl rfl rfl

/-- A learn that has ended has handed nothing over (R130). -/
theorem State.endLearn_recordsKept (s : State) (t : Target) (r : LastResult) : s.RecordsKept (s.endLearn t r) :=
  ⟨rfl, rfl, nofun, fun _ => Iff.rfl⟩

/-! ### The link monitor and the trackers -/

theorem State.enterLink_recordsKept (s : State) (st : LinkState) : s.RecordsKept (s.enterLink st) :=
  .of_hears (by simp) (by simp) (s.enterLink_hears st)

theorem State.enterLinkNoticed_recordsKept (s : State) (st : LinkState) :
    s.RecordsKept (s.enterLinkNoticed st) :=
  (s.enterLink_recordsKept st).trans (.of_eq rfl rfl rfl)

theorem State.takeStuckLong_recordsKept (s : State) (i : Sin) : s.RecordsKept (s.takeStuckLong i) :=
  .of_hears (by simp) (by simp) (s.takeStuckLong_hears i)

theorem State.finishTrackers_recordsKept (s : State) : s.RecordsKept s.finishTrackers :=
  .of_eq (by simp) (by simp) (by simp)

theorem State.finishInputs_recordsKept (s : State) : s.RecordsKept s.finishInputs :=
  .of_hears (by simp) (by simp) s.finishInputs_hears

theorem Accumulator.newlyUsed_absent (a : Accumulator) : a.newlyUsed = .absent ↔ a = .absent := by
  cases a <;> simp [Accumulator.newlyUsed]

/-- A window end loads accumulators that there are, and makes none (R46). -/
theorem State.setFloors_recordsKept (s : State) : s.RecordsKept s.setFloors := by
  refine ⟨rfl, rfl, fun _ => id, fun i => ?_⟩
  simp only [State.setFloors, Eight.get_of]
  split
  · exact Accumulator.newlyUsed_absent _
  · exact Iff.rfl

theorem State.takeWindowEnd_recordsKept (s : State) : s.RecordsKept s.takeWindowEnd := by
  by_cases h : s.windowDue = true
  · obtain ⟨hcond, hlearn, -⟩ := State.takeWindowEnd_rest h
    have hstore : s.takeWindowEnd.store = s.store := by simp
    exact s.setFloors_recordsKept.trans (.of_eq hstore hcond hlearn)
  · rw [State.takeWindowEnd_of_not_due (by simpa using h)]
    exact .refl s

theorem State.presenceTrue_recordsKept (s : State) : s.RecordsKept s.presenceTrue := by
  have hdebounced : s.RecordsKept (s.debounce true) := .of_eq rfl rfl rfl
  unfold State.presenceTrue
  dsimp only
  split
  · exact hdebounced.trans (State.enterLink_recordsKept _ _)
  · exact hdebounced

/-- A surprise loss is told to the streams and the ports (R24). -/
theorem State.surprise_recordsKept (s : State) (w : Nat) : s.RecordsKept (s.surprise w) := .of_eq rfl rfl rfl

theorem State.presenceFalse_recordsKept (s : State) : s.RecordsKept s.presenceFalse := by
  have hdebounced : s.RecordsKept (s.debounce false) := .of_eq rfl rfl rfl
  have habsent := hdebounced.trans (State.enterLinkNoticed_recordsKept _ .absent)
  unfold State.presenceFalse
  dsimp only
  cases s.link.state with
  | disabled | absent => exact hdebounced
  | powering | settling | overload => exact habsent
  | active =>
    dsimp only
    split
    · exact habsent
    · exact habsent.trans (State.surprise_recordsKept _ _)

theorem State.overCurrent_recordsKept (s : State) : s.RecordsKept s.overCurrent := by
  unfold State.overCurrent
  dsimp only
  split
  · exact (s.enterLink_recordsKept .overload).trans (.of_eq rfl rfl rfl)
  · exact .refl s

theorem State.powerUpEnd_recordsKept (s : State) : s.RecordsKept s.powerUpEnd := by
  unfold State.powerUpEnd
  split
  · exact s.enterLink_recordsKept .settling
  · exact .refl s

theorem State.holdEnd_recordsKept (s : State) (level : Bool) : s.RecordsKept (s.holdEnd level) := by
  unfold State.holdEnd
  split
  · split
    · exact s.presenceTrue_recordsKept
    · exact s.presenceFalse_recordsKept
  · exact .refl s

/-! ### A conversion set -/

theorem Accumulator.sample_absent (a : Accumulator) (x : Int) : (a.sample x).1 = .absent ↔ a = .absent := by
  cases a <;> simp [Accumulator.sample]

theorem State.dcAfter_get (s : State) (x : Eight (Option Int)) (i : Sin) :
    (s.dcAfter x).get i = match x.get i with
      | none => s.cond.dc.get i
      | some v => ((s.cond.dc.get i).sample v).1 :=
  Eight.get_of _ i

/-- A set moves the accumulators that there are (R36, R37). -/
theorem State.conditionSample_recordsKept (s : State) (x : Eight (Option Int)) (v : Six (Option Int)) :
    s.RecordsKept (s.conditionSample x v) := by
  refine ⟨rfl, rfl, fun _ => id, fun i => ?_⟩
  have hdc : (s.conditionSample x v).cond.dc = s.dcAfter x := rfl
  rw [hdc, State.dcAfter_get]
  split
  · exact Iff.rfl
  · exact Accumulator.sample_absent _ _

/-- A set of a capture counts before the commit is handed (R123). -/
theorem State.tapSample_recordsKept (s : State) (d : Eight (Option Int)) : s.RecordsKept (s.tapSample d) := by
  unfold State.tapSample State.learnTaps
  split
  · exact .refl s
  · dsimp only
    split
    · exact ⟨rfl, rfl, nofun, fun _ => Iff.rfl⟩
    · exact .refl s

theorem State.sampleTrackers_recordsKept (s : State) (turn : StringNo → Bool) (v : Six (Option Int)) :
    s.RecordsKept (s.sampleTrackers turn v) :=
  .of_hears (by simp) (by simp) (s.sampleTrackers_hears turn v)

theorem State.monitorChanges_recordsKept (s : State) (windowFirst : Bool) :
    s.RecordsKept (s.monitorChanges windowFirst) := by
  unfold State.monitorChanges
  split
  · exact (s.finishTrackers_recordsKept.trans (State.takeWindowEnd_recordsKept _)).trans
      (State.finishInputs_recordsKept _)
  · exact (s.finishTrackers_recordsKept.trans (State.finishInputs_recordsKept _)).trans
      (State.takeWindowEnd_recordsKept _)

/-! ### The capture end (R124, R125) -/

theorem bleedOf_le (p own : Nat) : bleedOf p own ≤ 8192 := Nat.min_le_left _ _

theorem clampNat_bounds {lo hi : Nat} (h : lo ≤ hi) (n : Nat) :
    lo ≤ clampNat lo hi n ∧ clampNat lo hi n ≤ hi :=
  ⟨Nat.le_max_left _ _, Nat.max_le.mpr ⟨h, Nat.min_le_left _ _⟩⟩

theorem Profile.bleeds_of_legal {r : Profile} (h : r.legal = true) :
    r.bleedThinner ≤ 8192 ∧ r.bleedThicker ≤ 8192 := by
  simp only [Profile.legal, Bool.and_eq_true, decide_eq_true_eq] at h
  obtain ⟨⟨-, hbleeds⟩, -⟩ := h
  exact hbleeds

/-- What a learn measures lies in the ranges of the fields it replaces (R125). -/
theorem measuredOf_legal (n : StringNo) (k : Peaks) {r : Profile} (h : r.legal = true) :
    (measuredOf n k r).legal = true := by
  obtain ⟨hthinner, hthicker⟩ := Profile.bleeds_of_legal h
  have hcoeff (c : Prop) [Decidable c] (p : Nat) {b : Nat} (hb : b ≤ 8192) :
      (if c then bleedOf p k.own else b) ≤ 8192 := by
    split
    · exact bleedOf_le _ _
    · exact hb
  exact decide_eq_true ⟨hcoeff _ _ hthinner, hcoeff _ _ hthicker, clampNat_bounds (by decide) _⟩

theorem State.recordsOk_captureEnd {s : State} (h : s.recordsOk = true) : s.captureEnd.recordsOk = true := by
  unfold State.captureEnd
  split
  · next t count k hl =>
    split
    · split
      · exact (s.endLearn_recordsKept _ _).recordsOk h
      · obtain ⟨hglobal, hprofile, -, hacc⟩ := s.recordsOk_iff.mp h
        refine (State.recordsOk_iff _).mpr ⟨hglobal, hprofile, fun m hm => ?_, hacc⟩
        cases hm
        exact measuredOf_legal _ _ (hprofile _ _)
    · exact h
  · exact h

theorem State.recordsOk_finishSet {s : State} (h : s.recordsOk = true) : s.finishSet.recordsOk = true := by
  have hinputs := s.finishTrackers_recordsKept.trans (State.finishInputs_recordsKept _)
  have haux (t : State) (x : AuxNo) : t.RecordsKept (t.finishAux x) := .of_eq (by simp) (by simp) (by simp)
  have hwindow := ((hinputs.trans (haux _ .sin6)).trans (haux _ .sin7)).trans (State.takeWindowEnd_recordsKept _)
  have hends (t : State) : t.RecordsKept t.endHandling := .of_eq rfl rfl rfl
  exact (hends _).recordsOk (State.recordsOk_captureEnd (hwindow.recordsOk h))

theorem State.recordsOk_met {s : State} (h : s.recordsOk = true) : s.met.recordsOk = true := by
  have hidle : s.finishSet.RecordsKept s.met :=
    .of_eq (by simp [State.met]) (by simp [State.met]) (by simp [State.met])
  exact hidle.recordsOk (State.recordsOk_finishSet h)

theorem State.recordsOk_setTapped {s : State} (h : s.recordsOk = true) (pins : SetInputs) (order : SetOrder) :
    (s.setTapped pins order).recordsOk = true := by
  have hsiu : s.RecordsKept (s.siuSample pins) := .of_eq rfl rfl rfl
  have hwindow (t : State) (d) : t.RecordsKept (t.measureWindow d) := .of_eq (by simp) (by simp) (by simp)
  have htapped (x v d) :=
    (((hsiu.trans (State.conditionSample_recordsKept _ x v)).trans (hwindow _ d)).trans
      (State.tapSample_recordsKept _ d)).recordsOk h
  unfold State.setTapped
  dsimp only
  split
  · exact State.recordsOk_captureEnd (htapped _ _ _)
  · exact htapped _ _ _

theorem State.recordsOk_conversionSet {s : State} (h : s.recordsOk = true) (pins : SetInputs)
    (order : SetOrder) : (s.conversionSet pins order).recordsOk = true := by
  have hidles (t : State) : t.RecordsKept t.countIdles := .of_eq rfl rfl rfl
  have hsampled : (s.met.setSampled pins order).recordsOk = true :=
    (State.sampleTrackers_recordsKept _ _ _).recordsOk
      (State.recordsOk_setTapped (State.recordsOk_met h) pins order)
  rw [State.conversionSet_eq, State.handleSet_eq]
  refine (hidles _).recordsOk ?_
  split
  · exact hsampled
  · exact ((State.monitorChanges_recordsKept _ _).trans
      (State.sampleTrackers_recordsKept _ _ _)).recordsOk hsampled

end Sys2Proof.Machine
end

section
/-!
PROOF. Every step keeps every stored record legal and an accumulator at each analog input: the commits, the owners
of the commands, the rows, and a step on an empty queue (R37, R100, R101, R102, R104, R105, R109).
-/

namespace Sys2Proof.Machine

/-! ### String profile records (R101, R104, R109) -/

theorem heldField_isSome (held : Bool) (lo hi n : Nat) : (heldField held lo hi n).isSome = held := by
  cases held <;> rfl

theorem heldField_bounds (held : Bool) {lo hi : Nat} (h : lo ≤ hi) (n : Nat) :
    ((heldField held lo hi n).all fun k => decide (lo ≤ k ∧ k ≤ hi)) = true := by
  cases held with
  | false => rfl
  | true => exact decide_eq_true (clampNat_bounds h n)

/-- An override part holds a field, and each that it holds lies in its range (R101). -/
def Override.legal (o : Override) : Bool :=
  (o.tol.isSome || o.onsetTimeout.isSome || o.jump.isSome) &&
    (o.tol.all fun k => decide (2 ≤ k ∧ k ≤ 32)) &&
    (o.onsetTimeout.all fun k => decide (480 ≤ k ∧ k ≤ 4800)) &&
    (o.jump.all fun k => decide (60 ≤ k ∧ k ≤ 300))

/-- What `legal` says of a string profile record, group by group. -/
theorem Profile.legal_iff (r : Profile) : r.legal = true ↔
    (2800 ≤ r.windowLow ∧ r.windowLow ≤ r.windowHigh ∧ r.windowHigh ≤ 10400) ∧
    (4 ≤ r.gateOn ∧ r.gateOn ≤ 64 ∧ 2 ≤ r.gateOff ∧ r.gateOff ≤ 15) ∧
    (20 ≤ r.repick ∧ r.repick ≤ 64 ∧ 1 ≤ r.sens ∧ r.sens ≤ 255 ∧ 4 ≤ r.decay ∧ r.decay ≤ 12) ∧
    (240 ≤ r.releaseHold ∧ r.releaseHold ≤ 9600) ∧ (r.bleedThinner ≤ 8192 ∧ r.bleedThicker ≤ 8192) ∧
    ∀ o, r.override = some o → o.legal = true := by
  unfold Profile.legal
  cases r.override with
  | none => simp only [Bool.and_eq_true, decide_eq_true_eq, and_assoc, reduceCtorEq, false_implies, implies_true]
  | some o =>
    simp only [Override.legal, Bool.and_eq_true, decide_eq_true_eq, and_assoc, Option.some.injEq, forall_eq']

/-- An override part is stored when it holds a field, each clamped to its range (R101, R104). -/
theorem overrideOf_legal {k : Marks} {m : ProfileImage} {o : Override} (ho : overrideOf k m = some o) :
    o.legal = true := by
  by_cases h : (k.part && (k.tol || k.onsetTimeout || k.jump)) = true
  · obtain ⟨-, hheld⟩ := Bool.and_eq_true_iff.mp h
    rw [overrideOf, if_pos h] at ho
    obtain rfl := Option.some.inj ho
    simp only [Override.legal, heldField_isSome, hheld, Bool.true_and, Bool.and_eq_true]
    exact ⟨⟨heldField_bounds _ (by decide) _, heldField_bounds _ (by decide) _⟩,
      heldField_bounds _ (by decide) _⟩
  · rw [overrideOf, if_neg h] at ho
    cases ho

/-- A clamped record whose window is not empty is legal (R101, R104). -/
theorem clampedProfile_legal (k : Marks) (m : ProfileImage) (revision : Half)
    (h : ¬ (clampedProfile k m revision).windowHigh < (clampedProfile k m revision).windowLow) :
    (clampedProfile k m revision).legal = true := by
  have hin {lo hi : Nat} (n : Nat) (hle : lo ≤ hi := by decide) := clampNat_bounds hle n
  refine (Profile.legal_iff _).mpr ⟨⟨(hin _).1, not_lt.mp h, (hin _).2⟩,
    ⟨(hin _).1, (hin _).2, (hin _).1, (hin _).2⟩,
    ⟨(hin _).1, (hin _).2, (hin _).1, (hin _).2, (hin _).1, (hin _).2⟩,
    hin _, ⟨(hin _).2, (hin _).2⟩, fun o => overrideOf_legal⟩

/-- A learn's commit puts legal values into a legal record (R109, R125). -/
theorem Profile.withMeasured_legal {r : Profile} {m : Measured} (h : r.legal = true) (hm : m.legal = true) :
    (r.withMeasured m).legal = true := by
  obtain ⟨hthinner, hthicker, hsens⟩ := of_decide_eq_true hm
  obtain ⟨hwindow, hgates, ⟨hlow, hhigh, -, -, hdecay⟩, hhold, -, hoverride⟩ := r.legal_iff.mp h
  exact (Profile.legal_iff _).mpr ⟨hwindow, hgates, ⟨hlow, hhigh, hsens.1, hsens.2, hdecay⟩, hhold,
    ⟨hthinner, hthicker⟩, hoverride⟩

theorem Store.profile_setProfile (t : Store) (k l : Bank) (n m : StringNo) (r : Profile) :
    (t.setProfile k n r).profile l m = if l = k ∧ m = n then r else t.profile l m := by
  rw [Store.profile, Store.setProfile, Two.bank_setBank]
  by_cases hl : l = k
  · subst hl
    rw [if_pos rfl, Six.get_set]
    simp [Store.profile]
  · simp [hl, Store.profile]

/-- A legal record is stored in the place of another (R100). -/
theorem State.recordsOk_storeProfile {s : State} (h : s.recordsOk = true) (k : Bank) (n : StringNo) {r : Profile}
    (hr : r.legal = true) : (s.storeProfile k n r).recordsOk = true := by
  obtain ⟨hglobal, hprofile, hhanded, hacc⟩ := s.recordsOk_iff.mp h
  refine (State.recordsOk_iff _).mpr ⟨hglobal, fun l m => ?_, hhanded, hacc⟩
  rw [State.storeProfile, Store.profile_setProfile]
  split
  · exact hr
  · exact hprofile l m

theorem State.recordsOk_doEditProfile {s : State} (h : s.recordsOk = true) (p : Port) (b n : Byte) (base : Half)
    (m : ProfileImage) : (s.doEditProfile p b n base m).1.recordsOk = true := by
  unfold State.doEditProfile
  split
  · next k n' _ _ =>
    dsimp only
    split
    · exact h
    split
    · exact h
    split
    · exact h
    · next hwindow =>
      have hraise (t : State) : t.RecordsKept (t.raise p.other .peerCommit) := t.updPort_recordsKept _ _
      have htold (t : State) : t.RecordsKept (t.learnProfileCommit k n') :=
        .of_hears (by simp) (by simp) (t.learnProfileCommit_hears k n')
      exact ((hraise _).trans (htold _)).recordsOk
        (State.recordsOk_storeProfile h k n' (clampedProfile_legal _ _ _ hwindow))
  · exact h

theorem State.recordsOk_takeLearnCommit {s : State} (h : s.recordsOk = true) :
    s.takeLearnCommit.recordsOk = true := by
  unfold State.takeLearnCommit
  split
  · next t count k m hl =>
    obtain ⟨-, hprofile, hhanded, -⟩ := s.recordsOk_iff.mp h
    have hr : ((s.store.profile t.bank t.string).withMeasured m).legal = true :=
      Profile.withMeasured_legal (hprofile _ _) (hhanded m (by rw [hl]; rfl))
    have hraise (u : State) : u.RecordsKept (u.raise t.port.other .peerCommit) := u.updPort_recordsKept _ _
    dsimp only
    split
    · exact ((hraise _).trans (State.endLearn_recordsKept _ _ _)).recordsOk
        (State.recordsOk_storeProfile h t.bank t.string hr)
    · exact (s.endLearn_recordsKept _ _).recordsOk h
  · exact h

/-! ### The global record (R102, R105) -/

theorem hasDuplicate_eq_false (l : List Sin) : hasDuplicate l = false ↔ l.Nodup := by
  induction l with
  | nil => simp [hasDuplicate]
  | cons i l ih => simp [hasDuplicate, ih]

theorem namedInputs_eq (m : Six (Option Sin)) : namedInputs m = StringNo.all.filterMap m.get :=
  (List.filterMap_map (f := m.get) (g := id) (l := StringNo.all)).symm ▸ rfl

/-- An accepted map names no input twice (R102, R105). -/
theorem distinct_of_mapFault? {na : Nat} {m : Six (Option Sin)} (h : mapFault? na m = none) {n k : StringNo}
    (hne : n ≠ k) {i : Sin} (hn : m.get n = some i) : m.get k ≠ some i := by
  have hnodup : (namedInputs m).Nodup := by
    unfold mapFault? at h
    split at h
    · cases h
    · next hd => exact (hasDuplicate_eq_false _).mp (by simpa using hd)
  rw [namedInputs_eq, List.Nodup, List.pairwise_filterMap] at hnodup
  have : Std.Symm fun a b => ∀ x, m.get a = some x → ∀ y, m.get b = some y → x ≠ y :=
    ⟨fun a b hab x hx y hy => (hab y hy x hx).symm⟩
  exact fun hk => hnodup.forall n.mem_all k.mem_all hne i hn i hk rfl

/-- A clamped record whose map is accepted is legal (R105). -/
theorem clampedGlobal_legal {map : Six (Option Sin)} (grade : Grade) (m : GlobalImage) (revision : Half)
    (h : mapFault? (clampedGlobal map grade m revision).na map = none) :
    (clampedGlobal map grade m revision).legal = true := by
  obtain ⟨hlow, hhigh⟩ := clampNat_bounds (lo := 6) (hi := 8) (by decide) m.na.toNat
  have hoffset : -50 ≤ clampInt (-50) 50 m.offset.toInt ∧ clampInt (-50) 50 m.offset.toInt ≤ 50 :=
    ⟨le_max_left _ _, max_le (by decide) (min_le_left _ _)⟩
  simp only [Global.legal, Bool.and_eq_true, decide_eq_true_eq, List.all_eq_true, Option.all_eq_true,
    Bool.or_eq_true, beq_iff_eq, bne_iff_ne, Option.isNone_iff_eq_none]
  refine ⟨⟨⟨⟨hlow, hhigh, hoffset⟩, fun i _ => ?_⟩, fun n _ i hn => ?_⟩, fun n _ k _ => ?_⟩
  · simp only [clampedGlobal, Eight.get_of]
    exact Nat.min_le_left _ _
  · exact (Global.analog_iff _ i).mpr (analog_of_mapFault? h hn)
  · by_cases hne : n = k
    · exact .inl (.inl hne)
    · cases hn : map.get n with
      | none => exact .inl (.inr hn)
      | some i => exact .inr fun heq => distinct_of_mapFault? h hne hn (heq.symm.trans hn)

/-- Behind a commit an input has an accumulator exactly when the new record makes it analog (R37, R44). -/
theorem Accumulator.afterCommit_absent {a : Accumulator} {old new : Global} {i : Sin}
    (h : a = .absent ↔ old.analog i = false) : a.afterCommit old new i = .absent ↔ new.analog i = false := by
  cases hn : new.analog i with
  | false => simp [Accumulator.afterCommit_of_digital a hn]
  | true =>
    suffices hne : a.afterCommit old new i ≠ .absent by simpa using hne
    by_cases hu : old.analog i = false ∨ becomesUsed old new i = true
    · rw [Accumulator.afterCommit_of_used a hn hu]
      nofun
    · obtain ⟨ho, hu⟩ := not_or.mp hu
      rw [Accumulator.afterCommit_of_unused a hn (by simpa using ho) (by simpa using hu)]
      split
      · exact fun ha => ho (h.mp ha)
      · split <;> nofun

/-- An accepted global record reaches the store and the accumulators, and the learn may end (R44, R105, R128). -/
theorem State.recordsOk_commitGlobal {s : State} (h : s.recordsOk = true) {g : Global} (hg : g.legal = true) :
    (s.commitGlobal g).recordsOk = true := by
  obtain ⟨-, hprofile, hhanded, hacc⟩ := s.recordsOk_iff.mp h
  have hstore : (s.commitGlobal g).store = { s.store with global := g } := by
    simp [State.commitGlobal_eq]
  have hlearn : s.learn.Hears (s.commitGlobal g).learn := by
    obtain ⟨-, -, -, hlink, -⟩ := (s.storedGlobal g).linkCommit_keeps s.store.global g
    have htold := ((s.storedGlobal g).linkCommit s.store.global g).learnGlobalCommit_hears s.store.global g
    rw [hlink] at htold
    exact htold
  refine (State.recordsOk_iff _).mpr ⟨by rw [hstore]; exact hg, fun k n => ?_,
    fun m hm => hhanded m (hlearn.handedOver hm), fun i => ?_⟩
  · rw [hstore]
    exact hprofile k n
  · rw [State.commitGlobal_cond, hstore]
    exact Accumulator.afterCommit_absent (hacc i)

theorem State.recordsOk_doEditGlobal {s : State} (h : s.recordsOk = true) (p : Port) (base : Half)
    (m : GlobalImage) : (s.doEditGlobal p base m).1.recordsOk = true := by
  unfold State.doEditGlobal
  dsimp only
  split
  · exact h
  · split
    · split
      · exact h
      · next hfault =>
        exact (State.updPort_recordsKept _ _ _).recordsOk
          (State.recordsOk_commitGlobal h (clampedGlobal_legal _ _ _ hfault))
    · exact h

/-! ### The resets (R118) -/

theorem Profile.factory_legal (n : StringNo) : (Profile.factory n).legal = true := by
  cases n <;> decide

theorem State.recordsOk_powerOn (s : State) : s.powerOn.recordsOk = true := by
  have hglobal : Global.factory.legal = true := by decide
  have hacc (i : Sin) : Conditioner.reset.dc.get i = .absent ↔ Global.factory.analog i = false := by
    cases i <;> decide
  refine (State.recordsOk_iff _).mpr ⟨hglobal, fun k n => ?_, nofun, hacc⟩
  rw [State.powerOn_profile]
  exact Profile.factory_legal n

/-! ### The owners of the other commands -/

theorem State.chooseClock_recordsKept (s : State) (c : ClockChoice) : s.RecordsKept (s.chooseClock c) :=
  .of_eq (by simp) (by simp) (by simp)

theorem State.doSetClock_recordsKept (s : State) (c : Byte) : s.RecordsKept (s.doSetClock c).1 := by
  unfold State.doSetClock
  split
  · exact .refl s
  · split
    · exact .refl s
    · exact s.chooseClock_recordsKept _

theorem State.doReadProfile_recordsKept (s : State) (b n : Byte) : s.RecordsKept (s.doReadProfile b n).1 := by
  unfold State.doReadProfile
  split <;> exact .refl s

/-- A request of banks changes no record (R116). -/
theorem State.doSelectBank_recordsKept (s : State) (m b : Byte) : s.RecordsKept (s.doSelectBank m b).1 := by
  have hrequest (k : Bank) (n : StringNo) (t : State) : t.RecordsKept (t.requestBank k n) := by
    have hstore : (t.requestBank k n).store = { t.store with requested := t.store.requested.set n k } := by
      simp [State.requestBank]
    exact ⟨by rw [hstore], by rw [hstore], fun _ => by simp, fun i => by simp⟩
  unfold State.doSelectBank
  split
  · exact .refl s
  split
  · exact .refl s
  · refine State.forStrings_inv (P := s.RecordsKept) (f := fun n t => if inMask m n then t.requestBank _ n else t)
      (fun n t ht => ?_) (.refl s)
    split
    · exact ht.trans (hrequest _ n t)
    · exact ht

theorem State.doRetrain_recordsKept (s : State) : s.RecordsKept s.doRetrain.1 := by
  unfold State.doRetrain
  split
  · exact s.enterLink_recordsKept .settling
  · exact .of_eq rfl rfl rfl
  · exact s.enterLink_recordsKept .powering
  all_goals exact .refl s

theorem State.doDisable_recordsKept (s : State) : s.RecordsKept s.doDisable.1 := by
  unfold State.doDisable
  split
  · exact .refl s
  · exact s.enterLinkNoticed_recordsKept .disabled

theorem State.doEnable_recordsKept (s : State) : s.RecordsKept s.doEnable.1 := by
  unfold State.doEnable
  split
  · split
    · exact s.enterLink_recordsKept .powering
    · exact s.enterLinkNoticed_recordsKept .absent
  · exact .refl s

theorem State.doExpectRemoval_recordsKept (s : State) : s.RecordsKept s.doExpectRemoval.1 := by
  unfold State.doExpectRemoval
  split
  · exact .of_eq rfl rfl rfl
  · exact .refl s

/-- A learn that begins has handed nothing over (R121). -/
theorem State.doLearnStart_recordsKept (s : State) (p : Port) (n b : Byte) (base : Half) :
    s.RecordsKept (s.doLearnStart p n b base).1 := by
  have harmed (t : Target) : s.RecordsKept (s.armLearn t) := ⟨rfl, rfl, nofun, fun _ => Iff.rfl⟩
  unfold State.doLearnStart
  split
  · split
    · exact .refl s
    · split
      · exact .refl s
      split
      · exact .refl s
      split
      · exact .refl s
      · exact harmed _
  · exact .refl s

theorem State.doLearnAbort_recordsKept (s : State) (p : Port) : s.RecordsKept (s.doLearnAbort p).1 := by
  unfold State.doLearnAbort
  split
  · exact s.endLearn_recordsKept _ _
  · exact .refl s

/-! The commands of the Stream Units leave the Conditioner alone too. -/

theorem State.RecordsKept.of_parts {s t : State} (h : t.linkParts = s.linkParts) (hc : t.cond = s.cond) :
    s.RecordsKept t := by
  simp only [State.linkParts, Prod.mk.injEq] at h
  obtain ⟨-, -, hs, he⟩ := h
  exact .of_eq hs hc he

theorem State.doSetStream_recordsKept (s : State) (p : Port) (m : SettingsImage) :
    s.RecordsKept (s.doSetStream p m).1 := by
  refine .of_parts (s.doSetStream_linkParts p m) ?_
  unfold State.doSetStream
  dsimp only
  repeat' split
  all_goals simp

theorem State.doSetFilter_recordsKept (s : State) (p : Port) (l : List FilterImage) :
    s.RecordsKept (s.doSetFilter p l).1 := by
  refine .of_parts (s.doSetFilter_linkParts p l) ?_
  unfold State.doSetFilter
  split
  · rfl
  · split <;> rfl

theorem State.doStart_recordsKept (s : State) (p : Port) : s.RecordsKept (s.doStart p).1 := by
  refine .of_parts (s.doStart_linkParts p) ?_
  unfold State.doStart
  split <;> simp

theorem State.doStop_recordsKept (s : State) (p : Port) : s.RecordsKept (s.doStop p).1 :=
  .of_parts (s.doStop_linkParts p) (by simp [State.doStop])

theorem State.doHold_recordsKept (s : State) (p : Port) : s.RecordsKept (s.doHold p).1 := by
  refine .of_parts (s.doHold_linkParts p) ?_
  unfold State.doHold
  split <;> simp

theorem State.doResume_recordsKept (s : State) (p : Port) : s.RecordsKept (s.doResume p).1 := by
  refine .of_parts (s.doResume_linkParts p) ?_
  unfold State.doResume
  split <;> simp

theorem State.doResync_recordsKept (s : State) (p : Port) : s.RecordsKept (s.doResync p).1 := by
  refine .of_parts (s.doResync_linkParts p) ?_
  unfold State.doResync
  split <;> simp

theorem State.doFetch_recordsKept (s : State) (p : Port) : s.RecordsKept (s.doFetch p).1 := by
  refine .of_parts (s.doFetch_linkParts p) ?_
  unfold State.doFetch
  split <;> rfl

theorem State.doRelease_recordsKept (s : State) (p : Port) (q : Byte) : s.RecordsKept (s.doRelease p q).1 := by
  refine .of_parts (s.doRelease_linkParts p q) ?_
  unfold State.doRelease
  split
  · rfl
  · split <;> simp

theorem State.doReadLatch_recordsKept (s : State) (p : Port) : s.RecordsKept (s.doReadLatch p).1 := by
  refine .of_parts (s.doReadLatch_linkParts p) ?_
  unfold State.doReadLatch
  split <;> rfl

theorem State.doPostCue_recordsKept (s : State) (p : Port) (d : Byte) (c : Half) :
    s.RecordsKept (s.doPostCue p d c).1 := by
  refine .of_parts (s.doPostCue_linkParts p d c) ?_
  unfold State.doPostCue
  split <;> simp

/-! ### A millisecond (R10, R18, R20, R122) -/

theorem State.armEnd_recordsKept (s : State) : s.RecordsKept s.armEnd :=
  .of_hears (by simp) (by simp) s.armEnd_hears

theorem State.watchEnd_recordsKept (s : State) : s.RecordsKept s.watchEnd :=
  .of_eq (by simp) (by simp) (by simp)

theorem State.tickDelay_recordsKept (s : State) : s.RecordsKept s.tickDelay := by
  unfold State.tickDelay
  split
  · exact .refl s
  · split
    · exact s.powerUpEnd_recordsKept
    · exact .of_eq rfl rfl rfl

theorem State.tickArm_recordsKept (s : State) : s.RecordsKept s.tickArm := by
  unfold State.tickArm
  split
  · split
    · exact s.armEnd_recordsKept
    · exact ⟨rfl, rfl, nofun, fun _ => Iff.rfl⟩
  · exact .refl s

theorem State.tickHold_recordsKept (s : State) : s.RecordsKept s.tickHold := by
  have hheld (k : Nat) : s.RecordsKept { s with link := { s.link with holdMs := k } } := .of_eq rfl rfl rfl
  unfold State.tickHold
  dsimp only
  split
  · exact (hheld _).trans (State.holdEnd_recordsKept _ _)
  · exact hheld _

theorem State.recordsOk_tick {s : State} (h : s.recordsOk = true) : s.tick.recordsOk = true := by
  have hwatch : s.finishSet.RecordsKept s.finishSet.tickWatch := .of_eq (by simp) (by simp) (by simp)
  exact (((hwatch.trans (State.tickDelay_recordsKept _)).trans (State.tickArm_recordsKept _)).trans
    (State.tickHold_recordsKept _)).recordsOk (State.recordsOk_finishSet h)

/-! ### The rows -/

/-- The row answers states in which the records are as they must be. -/
def AnswersRecordsOk (r : Result) : Prop := ∀ t, r = .next t → t.recordsOk = true

theorem answersRecordsOk_next {t : State} (h : t.recordsOk = true) : AnswersRecordsOk (.next t) := fun _ ht =>
  Host.Outcome.next.inj ht ▸ h

theorem answersRecordsOk_if {s t : State} (c : Prop) [Decidable c] (hs : s.recordsOk = true)
    (ht : t.recordsOk = true) : AnswersRecordsOk (if c then .next t else .next s) := by
  split
  · exact answersRecordsOk_next ht
  · exact answersRecordsOk_next hs

/-- A frame meets a finished set, and what its owner makes of it is answered. -/
theorem answersRecordsOk_frame {s : State} (h : s.recordsOk = true) (p : Port) (n : Nat)
    {owner : State → State × Response} (howner : ∀ t : State, t.recordsOk = true → (owner t).1.recordsOk = true) :
    AnswersRecordsOk (.next (s.frame p n owner)) := by
  refine answersRecordsOk_next ?_
  unfold State.frame
  dsimp only
  split
  · split
    · exact (s.updPort_recordsKept p _).recordsOk h
    · exact (State.updPort_recordsKept _ p _).recordsOk (howner _ (State.recordsOk_finishSet h))
  · exact h

theorem State.ownAnswer_recordsKept (s : State) (p : Port) (n : Nat) (st : Status) :
    s.RecordsKept (s.ownAnswer p n st) := by
  unfold State.ownAnswer
  dsimp only
  split
  · exact s.updPort_recordsKept p _
  · exact .refl s

theorem answersRecordsOk_partReset {s : State} (h : s.recordsOk = true) (p : Port) :
    AnswersRecordsOk (execPartReset p s) := by
  have hreset : s.powerOn.RecordsKept s.partReset := .of_eq rfl rfl rfl
  unfold execPartReset
  dsimp only
  split
  · split
    · exact answersRecordsOk_next ((s.updPort_recordsKept p _).recordsOk h)
    · exact answersRecordsOk_next ((hreset.trans (State.updPort_recordsKept _ p _)).recordsOk s.recordsOk_powerOn)
  · exact answersRecordsOk_next h

theorem answersRecordsOk_unknownCommand {s : State} (h : s.recordsOk = true) (p : Port) (code : Byte)
    (args : List Byte) : AnswersRecordsOk (execUnknownCommand p code args s) := by
  unfold execUnknownCommand
  split
  · exact answersRecordsOk_frame h p _ fun _ ht => ht
  · exact answersRecordsOk_next ((s.ownAnswer_recordsKept p _ _).recordsOk h)

/-- Every row leaves the records as they must be. -/
theorem exec_recordsOk (c : Instr) {s : State} (h : s.recordsOk = true) : AnswersRecordsOk (exec c s) := by
  have hkept {t : State} (ht : s.RecordsKept t) : AnswersRecordsOk (.next t) :=
    answersRecordsOk_next (ht.recordsOk h)
  have hif (c : Prop) [Decidable c] {t : State} (ht : s.RecordsKept t) :
      AnswersRecordsOk (if c then .next t else .next s) := answersRecordsOk_if c h (ht.recordsOk h)
  have hset {t : State} (ht : s.finishSet.RecordsKept t) : AnswersRecordsOk (.next t) :=
    answersRecordsOk_next (ht.recordsOk (State.recordsOk_finishSet h))
  have howner (p : Port) (n : Nat) {owner : State → State × Response}
      (ho : ∀ t : State, t.RecordsKept (owner t).1) : AnswersRecordsOk (.next (s.frame p n owner)) :=
    answersRecordsOk_frame h p n fun t ht => (ho t).recordsOk ht
  have htrackers := s.finishTrackers_recordsKept
  have hlink (t : State) (k : Link) : t.RecordsKept { t with link := k } := .of_eq rfl rfl rfl
  have hbefore (x : AuxNo) : s.RecordsKept (s.auxBefore x) := by
    cases x with
    | sin6 => exact .refl s
    | sin7 => exact .of_eq (by simp [State.auxBefore]) (by simp [State.auxBefore]) (by simp [State.auxBefore])
  cases c with
  | powerOn => exact answersRecordsOk_next s.recordsOk_powerOn
  | partReset p => exact answersRecordsOk_partReset h p
  | conversionSet src pins order => exact answersRecordsOk_if _ h (State.recordsOk_conversionSet h pins order)
  | stuckEpisodeBegin i => exact hkept (.of_eq (by simp) (by simp) (by simp))
  | stuckLong i => exact hif _ (htrackers.trans (State.takeStuckLong_recordsKept _ i))
  | auxEvaluation x => exact hif _ ((hbefore x).trans (.of_eq (by simp) (by simp) (by simp)))
  | digitalAuxPublish x => exact hif _ ((hbefore x).trans (.of_eq (by simp) (by simp) (by simp)))
  | settleWindowEnd => exact hif _ (htrackers.trans (State.takeWindowEnd_recordsKept _))
  | stall n | onsetTimeout n | releaseTimerEnd n | levelTimer n =>
    exact hkept (.of_eq (by simp) (by simp) (by simp))
  | wordClockLoss => exact hset (State.watchEnd_recordsKept _)
  | presChange level => exact hset (hlink _ _)
  | presenceBecomesTrue => exact hset (State.holdEnd_recordsKept _ true)
  | presenceBecomesFalse => exact hset (State.holdEnd_recordsKept _ false)
  | powerUpDelayEnd => exact hset (State.powerUpEnd_recordsKept _)
  | overCurrent => exact hset (State.overCurrent_recordsKept _)
  | armTimerExpiry => exact hset (State.armEnd_recordsKept _)
  | captureEnd => exact answersRecordsOk_next (State.recordsOk_captureEnd h)
  | learnCommit => exact answersRecordsOk_next (State.recordsOk_takeLearnCommit (State.recordsOk_finishSet h))
  | publicationTaken p m => exact hkept (.of_eq (by simp) (by simp) (by simp))
  | idleTimerExpiry p => exact hkept (.of_eq (by simp) (by simp) (by simp))
  | csFall p | csRise p | responseReady p => exact hkept (s.updPort_recordsKept p _)
  | unknownCommand p code args => exact answersRecordsOk_unknownCommand h p code args
  | malformedFrame p code args => exact hkept (s.ownAnswer_recordsKept p _ _)
  | busyFrame p code args => exact hif _ (s.ownAnswer_recordsKept p _ _)
  | identify p | readStatus p | readFloors p | learnStatus p | readStream p => exact howner p _ .refl
  | readContext p n | readCounters p n m => exact howner p _ .refl
  | setClock p choice => exact howner p _ fun t => t.doSetClock_recordsKept _
  | clearFlags p word | setAttnMask p word => exact howner p _ fun t => .of_eq rfl rfl rfl
  | readProfile p b n => exact howner p _ fun t => t.doReadProfile_recordsKept _ _
  | editProfile p b n base m =>
    exact answersRecordsOk_frame h p _ fun t ht => State.recordsOk_doEditProfile ht _ _ _ _ _
  | readGlobal p => exact howner p _ .refl
  | editGlobal p base m => exact answersRecordsOk_frame h p _ fun t ht => State.recordsOk_doEditGlobal ht _ _ _
  | selectBank p m b => exact howner p _ fun t => t.doSelectBank_recordsKept _ _
  | retrain p => exact howner p _ State.doRetrain_recordsKept
  | disable p => exact howner p _ State.doDisable_recordsKept
  | enable p => exact howner p _ State.doEnable_recordsKept
  | expectRemoval p => exact howner p _ State.doExpectRemoval_recordsKept
  | learnStart p n b base => exact howner p _ fun t => t.doLearnStart_recordsKept _ _ _ _
  | learnAbort p => exact howner p _ fun t => t.doLearnAbort_recordsKept _
  | setStream p m => exact howner p _ fun t => t.doSetStream_recordsKept p m
  | setFilter p l => exact howner p _ fun t => t.doSetFilter_recordsKept p l
  | readFilter p => exact howner p _ .refl
  | streamStart p => exact howner p _ fun t => t.doStart_recordsKept p
  | streamStop p => exact howner p _ fun t => t.doStop_recordsKept p
  | streamHold p => exact howner p _ fun t => t.doHold_recordsKept p
  | streamResume p => exact howner p _ fun t => t.doResume_recordsKept p
  | streamResync p => exact howner p _ fun t => t.doResync_recordsKept p
  | fetch p => exact howner p _ fun t => t.doFetch_recordsKept p
  | release p q => exact howner p _ fun t => t.doRelease_recordsKept p q
  | readLatch p => exact howner p _ fun t => t.doReadLatch_recordsKept p
  | postCue p d code => exact howner p _ fun t => t.doPostCue_recordsKept p d code
  | streamReset p | readPortCounters p | clearPortCounters p => exact howner p _ fun t => .of_eq rfl rfl rfl

/-! ### The step -/

theorem answersRecordsOk_clockByte {s : State} (h : s.recordsOk = true) (p : Port) (b : Byte) :
    AnswersRecordsOk (s.clockByte p b) := by
  unfold State.clockByte
  dsimp only
  split
  · exact answersRecordsOk_next h
  split
  · split
    · exact exec_recordsOk _ ((s.updPort_recordsKept p _).recordsOk h)
    · exact answersRecordsOk_next ((s.updPort_recordsKept p _).recordsOk h)
  · exact answersRecordsOk_next ((s.updPort_recordsKept p _).recordsOk h)

theorem answersRecordsOk_idle {s : State} (h : s.recordsOk = true) : AnswersRecordsOk s.idle := by
  unfold State.idle
  split
  · exact answersRecordsOk_clockByte ((s.updPort_recordsKept .a _).recordsOk h) .a _
  · exact answersRecordsOk_clockByte ((s.updPort_recordsKept .b _).recordsOk h) .b _
  · exact answersRecordsOk_next (State.recordsOk_tick h)

/-- Settles O57: what commits nothing keeps the records, and each commit stores legal ones. -/
theorem stepsKeepRecords : Obligations.StepsKeepRecords := by
  intro s t hok ht
  unfold step at ht
  split at ht
  · exact answersRecordsOk_idle hok t ht
  · next c rest _ => exact exec_recordsOk (s := { s with pending := rest }) c hok t ht

end Sys2Proof.Machine
end

section
/-!
SUPPORT. What the Conditioner hands out at a conversion set: the DC-removed sample of each string's own input, the
taps of a learn, and the accumulators and SAT counters behind the set (R36, R38, R41, R47).
-/

namespace Sys2Proof.Machine

/-! ### The DC-removed samples of the strings (R36, R38) -/

/-- d of a string's own input at a set: none where the string is mapped to NONE or its input is dropped. -/
def State.stringSample (s : State) (pins : SetInputs) (n : StringNo) : Option Int :=
  (s.store.global.map.get n).bind fun i =>
    if s.link.dropped.get i then none
    else some ((s.cond.dc.get i).removed (inputSample (s.store.global.gains.get i) (pins.raw.get i)))

/-- A legal map names inputs that have a DC-removed sample, so only a drop or NONE leaves a string without one. -/
theorem State.stringD_siuSample {s : State} (h : s.recordsOk = true) (pins : SetInputs) (n : StringNo) :
    stringD s.store.global s.link.dropped ((s.siuSample pins).dcSamples (s.inputSamples pins)) n =
      s.stringSample pins n := by
  unfold stringD conditioned State.stringSample
  cases hn : s.store.global.map.get n with
  | none => rfl
  | some i =>
    have ha : s.store.global.analog i = true := Global.analog_of_legal (State.recordsOk_legal h) hn
    cases hd : s.link.dropped.get i with
    | true => simp [hd]
    | false => simp [hd, State.dcSamples_siuSample h, ha]

theorem State.neighbourD_siuSample {s : State} (h : s.recordsOk = true) (pins : SetInputs) (n : Option StringNo) :
    neighbourD s.store.global s.link.dropped ((s.siuSample pins).dcSamples (s.inputSamples pins)) n =
      n.bind (s.stringSample pins) :=
  congrArg n.bind (funext fun m => State.stringD_siuSample h pins m)

/-- The handling of a set meets the Conditioner, the trackers and the learn of the settled part. -/
theorem State.met_of_settled {s : State} (h : s.settled = true) :
    s.met.cond = s.cond ∧ s.met.trackers = s.trackers ∧ s.met.learn = s.learn ∧
    s.met.link = { s.link with windowEnded := false } ∧
    s.met.siu = { s.siu with stamp := s.siu.stamp + 1, fed := s.siu.choice != .internal } := by
  have hfinish := State.finishSet_of_settled h
  refine ⟨by simp [State.met, hfinish], by simp [State.met, hfinish], by simp [State.met, hfinish], ?_, ?_⟩
  · rw [State.met_link, hfinish]
  · rw [State.met_siu, hfinish]

theorem State.met_stringSample {s : State} (h : s.settled = true) (pins : SetInputs) (n : StringNo) :
    s.met.stringSample pins n = s.stringSample pins n := by
  obtain ⟨hcond, -, -, hlink, -⟩ := State.met_of_settled h
  simp only [State.stringSample, s.met_store, hcond, hlink]

/-! ### Accumulators and SAT counters behind a set (R36, R41, R46) -/

theorem State.setSampled_cond (s : State) (pins : SetInputs) (order : SetOrder) :
    (s.setSampled pins order).cond =
      { dc := s.dcAfter (s.inputSamples pins),
        sat := Six.of fun n => satAfter (s.cond.sat.get n) ((s.setValues pins).get n) } := by
  obtain ⟨-, -, hcond, -⟩ := s.setSampled_keeps pins order
  have htapped : (s.setTapped pins order).cond =
      ((s.siuSample pins).conditionSample (s.inputSamples pins) (s.setValues pins)).cond := by
    unfold State.setTapped
    dsimp only
    split <;> simp
  rw [hcond, htapped]
  rfl

/-- No drop of an input moves the settle window (R21, R27). -/
theorem State.takeStuckLong_windowDue (s : State) (i : Sin) : (s.takeStuckLong i).windowDue = s.windowDue := by
  by_cases hl : (s.siu.inputs.get i).longDue = true
  · rw [State.takeStuckLong_of_due hl]
    split
    · rw [State.windowDue, State.dropChannel_link]
      rfl
    · rfl
  · rw [State.takeStuckLong_of_not_due (by simpa using hl)]

theorem State.finishInputs_windowDue (s : State) : s.finishInputs.windowDue = s.windowDue := by
  have hfold (l : List Sin) : ∀ t : State, (l.foldl (fun t i => t.finishInput i) t).windowDue = t.windowDue := by
    induction l with
    | nil => exact fun _ => rfl
    | cons i l ih =>
      intro t
      rw [List.foldl_cons, ih, State.finishInput, State.takeStuckLong_windowDue]
      exact State.windowDue_congr (by simp)
  exact hfold Sin.all s

/-- A window end at the set marks accumulators to be loaded, and counts no saturation (R41, R46). -/
theorem State.monitorChanges_sat (s : State) (windowFirst : Bool) :
    (s.monitorChanges windowFirst).cond.sat = s.cond.sat := by
  have hend (t : State) : t.takeWindowEnd.cond.sat = t.cond.sat := by
    by_cases h : t.windowDue = true
    · obtain ⟨hcond, -⟩ := State.takeWindowEnd_rest h
      rw [hcond]
      rfl
    · rw [State.takeWindowEnd_of_not_due (by simpa using h)]
  unfold State.monitorChanges
  split
  · simp [hend]
  · simp [hend]

/-- Where no window ends at the set, the monitor leaves the Conditioner alone (R46). -/
theorem State.monitorChanges_cond {s : State} (h : s.windowDue = false) (windowFirst : Bool) :
    (s.monitorChanges windowFirst).cond = s.cond := by
  have htrackers : s.finishTrackers.windowDue = false := by
    rw [← h]
    exact State.windowDue_congr (by simp)
  unfold State.monitorChanges
  split
  · rw [State.takeWindowEnd_of_not_due htrackers]
    simp
  · rw [State.takeWindowEnd_of_not_due (by rw [State.finishInputs_windowDue, htrackers])]
    simp

/-- The set that ends a window is its 8192nd (R21). -/
theorem State.setSampled_windowDue {s : State} (h : s.link.state = .settling → s.link.progress + 1 < 8192)
    (pins : SetInputs) (order : SetOrder) : (s.setSampled pins order).windowDue = false := by
  have hkeeps : (s.siuSample pins).link = s.link := rfl
  rw [Bool.eq_false_iff]
  intro hdue
  obtain ⟨hs, hle⟩ := (State.windowDue_iff _).mp hdue
  rw [State.setSampled_link, State.measureWindow_link, hkeeps] at hs hle
  by_cases hsettling : s.link.state = .settling
  · have hlt := h hsettling
    rw [if_pos hsettling] at hle
    have hprogress : 8192 ≤ s.link.progress + 1 := hle
    omega
  · rw [if_neg hsettling] at hs
    exact hsettling hs

theorem State.conversionSet_sat (s : State) (pins : SetInputs) (order : SetOrder) (n : StringNo) :
    (s.conversionSet pins order).cond.sat.get n =
      satAfter (s.met.cond.sat.get n) ((s.met.setValues pins).get n) := by
  have hsampled : (s.met.setSampled pins order).cond.sat.get n =
      satAfter (s.met.cond.sat.get n) ((s.met.setValues pins).get n) := by
    simp only [State.setSampled_cond, Six.get_of]
  rw [← hsampled, State.conversionSet_eq, State.handleSet_eq]
  split
  · simp
  · simp [State.monitorChanges_sat]

theorem State.conversionSet_dc {s : State} {order : SetOrder} (pins : SetInputs)
    (h : order.monitorFirst = 0 ∨ (s.met.link.state = .settling → s.met.link.progress + 1 < 8192)) (i : Sin) :
    (s.conversionSet pins order).cond.dc.get i = (s.met.dcAfter (s.met.inputSamples pins)).get i := by
  have hsampled : (s.met.setSampled pins order).cond.dc = s.met.dcAfter (s.met.inputSamples pins) := by
    rw [State.setSampled_cond]
  rw [← hsampled, State.conversionSet_eq, State.handleSet_eq]
  split
  · simp
  · next hm => simp [State.monitorChanges_cond (State.setSampled_windowDue (h.resolve_left hm) pins order)]

/-- Every tracker keeps the set's sample of its string as its last one, in each order (R50, R94). -/
theorem State.conversionSet_prevY (s : State) (pins : SetInputs) (order : SetOrder) (n : StringNo) :
    ((s.conversionSet pins order).trackers.get n).prevY = conditionedSample ((s.met.setValues pins).get n) := by
  have hfirst (h : takesFirst order n = false) : ((s.met.setSampled pins order).trackers.get n).prevY =
      conditionedSample ((s.met.setValues pins).get n) := by
    rw [State.setSampled_own h, State.trackerSample_prevY]
  have hidles (t : State) : t.countIdles.trackers = t.trackers := by simp
  by_cases hm : order.monitorFirst = 0
  · rw [State.conversionSet_sampled hm, hidles, hfirst (takesFirst_of_zero hm n)]
  · rw [State.conversionSet_masked hm, hidles]
    cases hn : takesFirst order n with
    | true => rw [State.sampleTrackers_own hn, State.trackerSample_prevY]
    | false => rw [State.sampleTrackers_waits hn, State.monitorChanges_samplesKept, hfirst hn]

end Sys2Proof.Machine
end

section
/-!
PROOF. The Conditioner at a conversion set: DC removal, bleed cancellation with its exact rounding, saturation and
its counter (R36 to R41, R50).
-/

namespace Sys2Proof.Machine

/-! ### DC removal (R36, R37) -/

theorem dcRemoval : Claims.DcRemoval := by
  intro src pins order s t i hsrc hset hwindow hexec x
  obtain ⟨hcond, -, -, hlink, -⟩ := State.met_of_settled hset
  rw [State.conversionSet_of_exec hsrc hexec, State.conversionSet_dc pins (by rw [hlink]; exact hwindow),
    State.dcAfter_get, hcond]
  simp only [State.inputSamples, Eight.get_of, s.met_store]
  by_cases ha : i.number < s.store.global.na
  · rw [if_pos ha, if_pos ((Global.analog_iff _ i).mpr ha)]
    cases s.cond.dc.get i <;> rfl
  · rw [if_neg ha, if_neg ((Global.analog_iff _ i).not.mpr ha)]

/-! ### The conditioned sample (R38 to R41) -/

/-- A string without a thicker neighbour has nothing to take from there (R39). -/
theorem State.thickerBleed_eq (s : State) (n : StringNo) (d : StringNo → Option Int) :
    (s.thickerCoeff n : Int) * (n.thicker?.bind d).getD 0 =
      match n.thicker? with
      | none => 0
      | some k => (s.effective k).bleedThinner * (d k).getD 0 := by
  unfold State.thickerCoeff
  cases n.thicker? with
  | none => exact Int.zero_mul _
  | some k => rfl

theorem State.thinnerBleed_eq (s : State) (n : StringNo) (d : StringNo → Option Int) :
    (s.thinnerCoeff n : Int) * (n.thinner?.bind d).getD 0 =
      match n.thinner? with
      | none => 0
      | some k => (s.effective k).bleedThicker * (d k).getD 0 := by
  unfold State.thinnerCoeff
  cases n.thinner? with
  | none => exact Int.zero_mul _
  | some k => rfl

/-- The value of a string before saturation, in the neighbours' samples and coefficients (R39, R40). -/
theorem State.setValues_get {s : State} (h : s.recordsOk = true) (pins : SetInputs) (n : StringNo) :
    (s.setValues pins).get n = (s.stringSample pins n).map fun d => roundedSum (32768 * d -
      (s.thickerCoeff n : Int) * (n.thicker?.bind (s.stringSample pins)).getD 0 -
      (s.thinnerCoeff n : Int) * (n.thinner?.bind (s.stringSample pins)).getD 0) := by
  have hunsaturated : (s.setValues pins).get n =
      (s.siuSample pins).unsaturated ((s.siuSample pins).dcSamples (s.inputSamples pins)) n := Six.get_of _ n
  rw [hunsaturated, ← State.stringD_siuSample h, ← State.neighbourD_siuSample h, ← State.neighbourD_siuSample h]
  rfl

/-- A value is saturated exactly when it lies outside the range of a sample, and counts then (R40, R41). -/
theorem satAfter_some (sat : Half) (v : Int) :
    satAfter sat (some v) = if v < -32768 ∨ 32767 < v then sat + 1 else sat := by
  have hsat : saturateY v = v ↔ ¬ (v < -32768 ∨ 32767 < v) := by
    unfold saturateY clampInt
    omega
  rw [satAfter]
  simp only [hsat, ite_not]

theorem conditionedSampleOfEachString : Claims.ConditionedSample := by
  intro src pins order s t n hsrc hset hrec hexec x d own record thicker thinner
  obtain ⟨hcond, htrackers, -, -⟩ := State.met_of_settled hset
  have hd (i : Sin) : d i = (s.cond.dc.get i).removed (x i) := by
    simp only [d]
    cases s.cond.dc.get i <;> rfl
  have hown (k : StringNo) : own k = s.stringSample pins k := by
    simp only [own, State.stringSample, hd]
    cases s.store.global.map.get k <;> rfl
  have heffective (k : StringNo) : s.met.effective k = record k := by
    rw [State.effective, s.met_store, htrackers]
  have hsamples : s.met.stringSample pins = own :=
    funext fun k => (State.met_stringSample hset pins k).trans (hown k).symm
  have hvalue : (s.met.setValues pins).get n =
      (own n).map fun dn => (32768 * dn - thicker - thinner + 16384) / 32768 := by
    rw [State.setValues_get (State.recordsOk_met hrec), State.thickerBleed_eq, State.thinnerBleed_eq, hsamples]
    simp only [heffective]
    rfl
  have hsat := s.conversionSet_sat pins order n
  have hprev := s.conversionSet_prevY pins order n
  rw [hvalue, hcond] at hsat
  rw [hvalue] at hprev
  rw [State.conversionSet_of_exec hsrc hexec]
  cases hn : own n with
  | none =>
    rw [hn] at hsat hprev
    exact ⟨hsat, hprev⟩
  | some dn =>
    rw [hn] at hsat hprev
    exact ⟨hsat.trans (satAfter_some _ _), hprev⟩

/-- Settles O18: the Conditioner's two registers behind a set, and the sample that it hands each tracker. -/
theorem conditioning : Obligations.Conditioning := ⟨dcRemoval, conditionedSampleOfEachString⟩

end Sys2Proof.Machine
end

section
/-!
PROOF. The sets of a capture, the arm timer, the capture end and the commit of a learn (R109, R122 to R126).
-/

namespace Sys2Proof.Machine

/-! ### The arm timer and the commit (R109, R122, R124) -/

theorem exec_armTimerExpiry (s : State) : exec .armTimerExpiry s = .next s.finishSet.armEnd := rfl

theorem exec_captureEnd (s : State) : exec .captureEnd s = .next s.captureEnd := rfl

theorem exec_learnCommit (s : State) : exec .learnCommit s = .next s.finishSet.takeLearnCommit := rfl

theorem armTimerExpires : Claims.ArmTimerExpires := by
  intro s hset
  rw [exec_armTimerExpiry, State.finishSet_of_settled hset]
  cases hl : s.learn.state with
  | armed t ms => rw [State.armEnd_of_armed hl]; rfl
  | idle => simp only [State.armEnd, hl]
  | capture t count k handed => simp only [State.armEnd, hl]

theorem learnCommits : Claims.LearnCommits := by
  intro s hset
  rw [exec_learnCommit, State.finishSet_of_settled hset]
  cases hl : s.learn.state with
  | idle => simp only [State.takeLearnCommit, hl]
  | armed t ms => simp only [State.takeLearnCommit, hl]
  | capture t count k handed =>
    cases handed with
    | none => simp only [State.takeLearnCommit, hl]
    | some m =>
      simp only [State.takeLearnCommit, hl]
      split
      · rfl
      · rfl

/-! ### The capture end (R124, R125) -/

/-- The results of a learn, with the coefficient toward a missing neighbour as it is stored (R125). -/
theorem measuredOf_eq (n : StringNo) (k : Peaks) (r : Profile) : measuredOf n k r =
    { bleedThinner := if n = .s1 then r.bleedThinner else min 8192 (32768 * k.thinner / k.own),
      bleedThicker := if n = .s6 then r.bleedThicker else min 8192 (32768 * k.thicker / k.own),
      sens := max 1 (min 255 ((100 * 16384 + k.own - 1) / k.own)) } := by
  cases n <;> rfl

theorem captureEnds : Claims.CaptureEnds := by
  intro s t count k hl
  rw [exec_captureEnd]
  simp only [State.captureEnd, hl, measuredOf_eq]
  by_cases hcount : count < 4096
  · rw [if_pos hcount, if_neg (show ¬ Config.captureLength ≤ count from Nat.not_le.mpr hcount)]
  · rw [if_neg hcount, if_pos (show Config.captureLength ≤ count from Nat.not_lt.mp hcount)]
    by_cases hweak : k.own < 2048
    · rw [if_pos hweak, if_pos (show k.own < Config.weakLimit from hweak)]
      rfl
    · rw [if_neg hweak, if_neg (show ¬ k.own < Config.weakLimit from hweak)]

/-! ### A set of a capture (R47, R123) -/

theorem raisePeak_eq (peak : Nat) (tap : Option Int) : raisePeak peak tap = max peak (tap.getD 0).natAbs := by
  cases tap with
  | none => exact (Nat.max_zero peak).symm
  | some d => rfl

/-- The learn state of a capture that has counted one set more, with the taps of these strings (R123). -/
def State.gathered (s : State) (pins : SetInputs) (g : Target) (count : Nat) (k : Peaks) : LearnState :=
  let tap := fun n : Option StringNo => ((n.bind (s.stringSample pins)).getD 0).natAbs
  .capture g (count + 1) ⟨max k.own (tap (some g.string)), max k.thinner (tap g.string.thinner?),
    max k.thicker (tap g.string.thicker?)⟩ none

theorem State.gathered_congr {s t : State} (h : t.stringSample = s.stringSample) (pins : SetInputs) (g : Target)
    (count : Nat) (k : Peaks) : t.gathered pins g count k = s.gathered pins g count k := by
  rw [State.gathered, State.gathered, h]

theorem State.tapSample_learn {s : State} {g : Target} {count : Nat} {k : Peaks}
    (hl : s.learn.state = .capture g count k none) (d : Eight (Option Int)) :
    let tap := fun n => ((neighbourD s.store.global s.link.dropped d n).getD 0).natAbs
    (s.tapSample d).learn = { s.learn with state := .capture g (count + 1) ⟨max k.own (tap (some g.string)),
      max k.thinner (tap g.string.thinner?), max k.thicker (tap g.string.thicker?)⟩ none } := by
  simp only [State.tapSample, hl, LearnState.target, State.learnTaps, raisePeak_eq]
  rfl

/-- The part with this learn state, everything else as it is. -/
def State.withCapture (s : State) (l : LearnState) : State := { s with learn := { s.learn with state := l } }

/-- A capture end reads the learn, the records and the stamp alone (R124, R130). -/
theorem State.captureEnd_learn_congr {s t : State} (hl : t.learn = s.learn) (hs : t.store = s.store)
    (hstamp : t.siu.stamp = s.siu.stamp) : t.captureEnd.learn = s.captureEnd.learn := by
  have hended (g : Target) (r : LastResult) : (t.endLearn g r).learn = (s.endLearn g r).learn := by
    simp only [State.endLearn, State.raise_learn, hstamp]
  unfold State.captureEnd
  rw [hl]
  split
  · split
    · split
      · exact hended _ _
      · rw [hs]
    · exact hl
  · exact hl

/-- Up to the trackers, a set adds its taps to a capture; a capture end that comes first meets them (R123, R126). -/
theorem State.setTapped_learn {s : State} (h : s.recordsOk = true) {g : Target} {count : Nat} {k : Peaks}
    (hl : s.learn.state = .capture g count k none) (pins : SetInputs) (order : SetOrder) :
    (s.setTapped pins order).learn =
      if order.captureFirst then (s.withCapture (s.gathered pins g count k)).captureEnd.learn
      else (s.withCapture (s.gathered pins g count k)).learn := by
  have hdropped (m : State) (d) : (m.measureWindow d).link.dropped = m.link.dropped := by
    rw [State.measureWindow_link]
    split <;> rfl
  have htaps (n : Option StringNo) := State.neighbourD_siuSample h pins n
  unfold State.setTapped
  dsimp only
  generalize (s.siuSample pins).dcSamples (s.inputSamples pins) = d at htaps ⊢
  generalize hm : ((s.siuSample pins).conditionSample (s.inputSamples pins) (s.setValues pins)).measureWindow d = m
  have hlearn : m.learn = s.learn := by simp [← hm]
  have hstore : m.store = s.store := by simp [← hm]
  have hstamp : m.siu.stamp = s.siu.stamp := by simp [← hm, State.siuSample]
  have hlink : m.link.dropped = s.link.dropped := by rw [← hm, hdropped]; rfl
  have htapped : (m.tapSample d).learn = (s.withCapture (s.gathered pins g count k)).learn := by
    rw [State.tapSample_learn (hlearn ▸ hl), hstore, hlink, hlearn]
    simp only [htaps]
    rfl
  split
  · exact State.captureEnd_learn_congr htapped (by simp [hstore, State.withCapture])
      (by simp [hstamp, State.withCapture])
  · exact htapped

/-- A capture end that is due leaves no learn that could still be ended (R124). -/
theorem State.captureEnd_open {s : State} {g : Target} {count : Nat} {k : Peaks}
    (hl : s.learn.state = .capture g count k none) (hc : 4096 ≤ count) :
    s.captureEnd.learn.state.open? = none := by
  simp only [State.captureEnd, hl, if_pos (show Config.captureLength ≤ count from hc)]
  split
  · rfl
  · rfl

theorem State.captureDue_iff {s : State} {g : Target} {count : Nat} {k : Peaks}
    (hl : s.learn.state = .capture g count k none) : s.captureDue = true ↔ 4096 ≤ count := by
  simp only [State.captureDue, hl, decide_eq_true_eq]
  rfl

/-- Behind the taps of a set the engine only hears of what trackers and monitor report (R122, R126, R127). -/
theorem State.conversionSet_hears (s : State) (pins : SetInputs) (order : SetOrder) :
    (s.met.setTapped pins order).learn.Hears (s.conversionSet pins order).learn := by
  have hsampled : (s.met.setTapped pins order).learn.Hears (s.met.setSampled pins order).learn :=
    State.sampleTrackers_hears _ _ _
  have hidles (t : State) : t.countIdles.learn = t.learn := by simp
  rw [State.conversionSet_eq, State.handleSet_eq, hidles]
  split
  · exact hsampled
  · exact (hsampled.trans (State.monitorChanges_hears _ _)).trans (State.sampleTrackers_hears _ _ _)

/-- The tap of a string is the magnitude of its DC-removed sample, 0 where it carries none (R47, R123). -/
theorem State.stringSample_natAbs (s : State) (pins : SetInputs) (n : Option StringNo) :
    ((n.bind (s.stringSample pins)).getD 0).natAbs =
      match n.bind fun k => s.store.global.map.get k with
      | none => 0
      | some i => if s.link.dropped.get i then 0 else
        ((s.cond.dc.get i).removed (inputSample (s.store.global.gains.get i) (pins.raw.get i))).natAbs := by
  cases n with
  | none => rfl
  | some m =>
    simp only [Option.bind_some, State.stringSample]
    cases s.store.global.map.get m with
    | none => rfl
    | some i =>
      simp only [Option.bind_some]
      split <;> rfl

theorem captureGathersPeaks : Claims.CaptureGathersPeaks := by
  intro src pins order s t g count k hsrc hset hrec hl hexec x tap gathered u
  obtain ⟨-, -, hlearn, -, hsiu⟩ := State.met_of_settled hset
  obtain ⟨-, -, -, -, -, -, hdue⟩ := s.settled_iff.mp hset
  have hcount : count ≤ 4095 := by
    have hlt := (State.captureDue_iff hl).not.mp (by simp [hdue])
    omega
  have htap (n : Option StringNo) : ((n.bind (s.stringSample pins)).getD 0).natAbs = tap n := by
    rw [State.stringSample_natAbs]
    simp only [Accumulator.removed_natAbs]
    rfl
  have hgathered : s.met.gathered pins g count k = gathered := by
    rw [State.gathered_congr (funext fun p => funext (State.met_stringSample hset p)), State.gathered]
    simp only [htap]
    rfl
  have htapped := State.setTapped_learn (State.recordsOk_met hrec) (by rw [hlearn, hl]) pins order
  rw [hgathered] at htapped
  have hhears := s.conversionSet_hears pins order
  rw [State.conversionSet_of_exec hsrc hexec]
  refine ⟨hcount, ?_⟩
  have hstate : (s.met.withCapture gathered).learn.state = gathered := rfl
  split
  · next hlast =>
    obtain ⟨rfl, hfirst⟩ := hlast
    rw [if_pos hfirst] at htapped
    have hclosed := State.captureEnd_open hstate (Nat.le_refl 4096)
    refine ⟨_, exec_captureEnd u, ?_⟩
    rw [hhears.of_closed (by rw [htapped, hclosed]), htapped]
    exact State.captureEnd_learn_congr (s := u) (t := s.met.withCapture gathered)
      (by simp only [State.withCapture, hlearn, u]) (by simp only [State.withCapture, s.met_store, u])
      (by simp only [State.withCapture, hsiu, u])
  · next hlast =>
    intro hidle
    have hcounted : (s.met.setTapped pins order).learn = (s.met.withCapture gathered).learn := by
      rw [htapped]
      split
      · next hfirst =>
        rw [State.captureEnd_of_not_due]
        rw [Bool.eq_false_iff, Ne, State.captureDue_iff hstate]
        have hne : count ≠ 4095 := fun he => hlast ⟨he, hfirst⟩
        omega
      · rfl
    rw [hcounted] at hhears
    rw [(hhears.of_capture hstate).resolve_right hidle, hstate]

/-- Settles O37: the timer, the sets of a capture, its end, and the commit. -/
theorem learnCapturesAndEnds : Obligations.LearnCapturesAndEnds :=
  ⟨armTimerExpires, captureGathersPeaks, captureEnds, learnCommits⟩

end Sys2Proof.Machine
end

section
/-!
PROOF. Agreement of intervals, and the vote on the interval history with its counters (R62, R63, R64, R65, R69).
-/

namespace Sys2Proof.Machine

/-! ### Agreement (R62) -/

theorem agree_eq (tol a c : Nat) : agree tol a c = decide (max a c - min a c ≤ max a c * tol / 256) := by
  have hdiff : (a - c) + (c - a) = max a c - min a c := by omega
  rw [agree, hdiff]

theorem agree_comm (tol a c : Nat) : agree tol a c = agree tol c a := by
  rw [agree_eq, agree_eq, Nat.max_comm, Nat.min_comm]

theorem agree_self (tol a : Nat) : agree tol a a = true := by simp [agree]

/-- A difference that a tolerance of 14 allows leaves a ratio of 242 / 256 or more, whose twelfth power lies
above 1 / 2: it is less than a semitone. -/
theorem agree_of_semitone {tol a c : Nat} (htol : tol ≤ 14) (ha : 0 < a) (h : 2 * c ^ 12 ≤ a ^ 12) :
    agree tol a c = false := by
  have hpos : 0 < a ^ 12 := Nat.pow_pos ha
  have hlt : c < a := lt_of_pow_lt_pow_left₀ 12 (Nat.zero_le a) (by omega)
  rw [agree_eq, Nat.max_eq_left hlt.le, Nat.min_eq_right hlt.le, decide_eq_false_iff_not]
  intro hagree
  have hallowed : a * tol ≤ a * 14 := Nat.mul_le_mul_left a htol
  have hratio : 242 * a ≤ 256 * c := by omega
  have hpow := Nat.pow_le_pow_left hratio 12
  rw [Nat.mul_pow, Nat.mul_pow] at hpow
  omega

/-- Settles O21. -/
theorem intervalAgreement : Obligations.IntervalAgreement := by
  have hat (tol c : Nat) (hc : c ≤ 6982) : agree tol 6982 c = decide (6982 - c ≤ 6982 * tol / 256) := by
    rw [agree_eq, Nat.max_eq_left hc, Nat.min_eq_right hc]
  exact ⟨agree_eq, agree_comm, agree_self, fun _ _ _ => agree_of_semitone, rfl, rfl, rfl,
    fun c hc => ⟨hat 12 c hc, hat 8 c hc, hat 5 c hc⟩⟩

/-! ### The vote (R63) -/

theorem vote_of_short (tol : Nat) {l : List Nat} (h : l.length ≤ 1) : vote tol l = none := by
  match l, h with
  | [], _ => rfl
  | [_], _ => rfl

theorem vote_of_clean {tol i2 i3 : Nat} (oldest : Option Nat) (h : agree tol i3 i2 = true) :
    vote tol (oldest.toList ++ [i2, i3]) = some (.clean ((i2 + i3 + 1) / 2)) := by
  cases oldest <;> simp [vote, h]

theorem vote_of_split {tol i1 i2 i3 : Nat} (h : ¬ agree tol i3 i2 = true) (hs : agree tol i1 i3 = true) :
    vote tol [i1, i2, i3] = some (.split ((i1 + i3 + 1) / 2)) := by
  simp [vote, h, hs]

theorem vote_of_none {tol i2 i3 : Nat} {oldest : Option Nat} (h : ¬ agree tol i3 i2 = true)
    (hs : ∀ i1, oldest = some i1 → ¬ agree tol i1 i3 = true) :
    vote tol (oldest.toList ++ [i2, i3]) = some .none := by
  cases oldest with
  | none => simp [vote, h]
  | some i1 => simp [vote, h, hs i1 rfl]

/-! ### Stage 7 (R64, R65, R69) -/

theorem TrackState.votes_iff (st : TrackState) : st.votes = true ↔ st ≠ .muted ∧ st ≠ .silent := by
  cases st <;> simp [TrackState.votes]

/-- A pitch in the window is accepted, and one outside it counts in REJECT (R65, R69). -/
theorem Tracker.checkPitch_if (t : Tracker) (v : Int) : t.checkPitch v =
    if t.copy.windowLow ≤ v ∧ v ≤ t.copy.windowHigh then (t, some v)
    else ({ t with reject := t.reject + 1 }, none) := by
  simp only [Tracker.checkPitch, WorkingCopy.inWindow, Bool.and_eq_true, decide_eq_true_eq]

/-- A vote is made of a newly entered interval, in the states that vote (R64). -/
theorem Tracker.stageVote_of_votes {t : Tracker} (hm : t.state ≠ .muted) (hs : t.state ≠ .silent) (rate : Rate)
    (offset : Int) : t.stageVote rate offset true =
      match vote t.copy.tol t.history with
      | some (.clean p) => t.checkPitch (pitchOf rate offset p)
      | some (.split p) => Tracker.checkPitch { t with noise := t.noise + 1 } (pitchOf rate offset p)
      | some .none => ({ t with reject := t.reject + 1 }, none)
      | none => (t, none) := by
  have hvotes : (true && t.state.votes) = true := (TrackState.votes_iff _).mpr ⟨hm, hs⟩
  exact if_pos hvotes

/-- Without a new interval, in MUTED and SILENT, and on one interval or none nothing is voted (R63, R64). -/
theorem Tracker.stageVote_of_no_vote {t : Tracker} (rate : Rate) (offset : Int) {entered : Bool}
    (h : entered = false ∨ t.state = .muted ∨ t.state = .silent ∨ t.history.length ≤ 1) :
    t.stageVote rate offset entered = (t, none) := by
  unfold Tracker.stageVote
  split
  · next hvotes =>
    obtain ⟨he, hv⟩ := Bool.and_eq_true_iff.mp hvotes
    obtain ⟨hm, hs⟩ := (TrackState.votes_iff _).mp hv
    have hshort : t.history.length ≤ 1 := by simpa [he, hm, hs] using h
    rw [vote_of_short _ hshort]
  · rfl

/-- Settles O22: the three outcomes of the vote, each with its candidate checked against the window. -/
theorem voting : Obligations.Voting := by
  intro t rate offset
  refine ⟨fun entered => t.stageVote_of_no_vote rate offset, fun hm hs oldest i2 i3 hh => ?_⟩
  refine ⟨fun hclean => ?_, ?_, fun hclean hsplit => ?_⟩
  · have hvote := vote_of_clean oldest hclean
    rw [← hh] at hvote
    rw [Tracker.stageVote_of_votes hm hs, hvote]
    exact t.checkPitch_if _
  · rintro ⟨hclean, i1, rfl, hsplit⟩
    have hvote : vote t.copy.tol ((some i1).toList ++ [i2, i3]) = _ := vote_of_split hclean hsplit
    rw [← hh] at hvote
    rw [Tracker.stageVote_of_votes hm hs, hvote]
    exact Tracker.checkPitch_if _ _
  · have hvote := vote_of_none hclean fun i1 ho ha => hsplit ⟨hclean, i1, ho, ha⟩
    rw [← hh] at hvote
    rw [Tracker.stageVote_of_votes hm hs, hvote]

end Sys2Proof.Machine
end

section
/-!
PROOF. The measuring stages of one sample: what each of them makes of the tracker, and the seven in order (R50,
R51, R54, R55, R56, R57, R58, R59, R60, R64, R65).
-/

namespace Sys2Proof.Machine

/-! ### Marks and intervals (R55, R56, R58, R59) -/

theorem markFound_iff (armed : Bool) (prevY y : Int) :
    markFound armed prevY y = true ↔ armed = true ∧ prevY < 0 ∧ 0 ≤ y := by
  simp only [markFound, Bool.and_eq_true, decide_eq_true_eq, and_assoc]

/-- At a crossing the fraction is formed of numbers that are not negative, so it may be formed in the integers. -/
theorem markFraction_of_crossing {prevY y : Int} (hp : prevY < 0) (hy : 0 ≤ y) :
    markFraction prevY y = min 15 ((16 * -prevY) / (y - prevY)).toNat := by
  obtain ⟨a, ha⟩ := Int.eq_ofNat_of_zero_le (show 0 ≤ 16 * -prevY by omega)
  obtain ⟨b, hb⟩ := Int.eq_ofNat_of_zero_le (show 0 ≤ y - prevY by omega)
  rw [markFraction, ha, hb, ← Int.natCast_ediv]
  rfl

/-- The interval of a mark to the last one, if there is one (R58). -/
def Tracker.intervalTo (t : Tracker) (m : MarkTime) : Option Nat := t.lastMark.map fun l => (m - l).toNat

/-- The interval history behind a kept mark (R58, R59). -/
def historyAfter (h : List Nat) : Option Nat → List Nat
  | none => h
  | some i => if 20000 < i then [] else enterInterval h i

/-- The tracker behind a kept mark (R55, R57, R58, R59, R60). -/
def Tracker.marked (t : Tracker) (m : MarkTime) : Tracker :=
  { t with armed := false, history := historyAfter t.history (t.intervalTo m), lastMark := some m, stall := 0,
           prevPeak := t.curPeak, curPeak := 0 }

/-- A mark is found and, with no interval to the last one or one of 128 or more, kept (R55, R58). -/
def Tracker.Keeps (t : Tracker) (m : MarkTime) (y : Int) : Prop :=
  (t.armed = true ∧ t.prevY < 0 ∧ 0 ≤ y) ∧ ∀ i, t.intervalTo m = some i → 128 ≤ i

theorem Tracker.stageMark_of_not_found {t : Tracker} (stamp : Stamp) {y : Int}
    (h : ¬ (t.armed = true ∧ t.prevY < 0 ∧ 0 ≤ y)) : t.stageMark stamp y = (t, ⟨none, false⟩) :=
  if_neg (mt (markFound_iff _ _ _).mp h)

/-- A mark found less than 128 behind the last one is dropped (R58). -/
theorem Tracker.stageMark_of_close {t : Tracker} {stamp : Stamp} {y : Int} {i : Nat}
    (h : t.armed = true ∧ t.prevY < 0 ∧ 0 ≤ y) (hi : t.intervalTo (markTime stamp t.prevY y) = some i)
    (hc : i < 128) : t.stageMark stamp y = ({ t with armed := false }, ⟨none, false⟩) := by
  obtain ⟨l, hl, rfl⟩ := Option.map_eq_some_iff.mp hi
  unfold Tracker.stageMark
  rw [if_pos ((markFound_iff _ _ _).mpr h), hl]
  exact if_pos hc

/-- A kept mark, with an interval of up to 20000 entered (R58, R59). -/
theorem Tracker.stageMark_of_keeps {t : Tracker} {stamp : Stamp} {y : Int}
    (h : t.Keeps (markTime stamp t.prevY y) y) : t.stageMark stamp y =
      (t.marked (markTime stamp t.prevY y), ⟨some (t.curPeak, t.prevPeak),
        (t.intervalTo (markTime stamp t.prevY y)).any fun i => decide (i ≤ 20000)⟩) := by
  obtain ⟨hfound, hkept⟩ := h
  unfold Tracker.stageMark Tracker.marked
  rw [if_pos ((markFound_iff _ _ _).mpr hfound)]
  unfold Tracker.intervalTo at *
  cases hl : t.lastMark with
  | none => rfl
  | some l =>
    rw [hl] at hkept
    simp only [Option.map_some] at *
    have hmin : 128 ≤ (markTime stamp t.prevY y - l).toNat := hkept _ rfl
    generalize (markTime stamp t.prevY y - l).toNat = i at *
    rw [if_neg (show ¬ i < Config.intervalMin from Nat.not_lt.mpr hmin)]
    split
    · next hlong =>
      have hlong : 20000 < i := hlong
      simp [Tracker.keepMark, historyAfter, hlong]
    · next hlong =>
      have hlong : ¬ 20000 < i := hlong
      simp [Tracker.keepMark, historyAfter, hlong, Nat.not_lt.mp hlong]

/-- Stages 3 and 4 do one of three things: keep the mark found, drop it, or find none (R55, R58). -/
theorem Tracker.stageMark_cases (t : Tracker) (stamp : Stamp) (y : Int) :
    (t.Keeps (markTime stamp t.prevY y) y ∧ t.stageMark stamp y =
      (t.marked (markTime stamp t.prevY y), ⟨some (t.curPeak, t.prevPeak),
        (t.intervalTo (markTime stamp t.prevY y)).any fun i => decide (i ≤ 20000)⟩)) ∨
    (¬ t.Keeps (markTime stamp t.prevY y) y ∧ t.stageMark stamp y =
      ({ t with armed := t.armed && !markFound t.armed t.prevY y }, ⟨none, false⟩)) := by
  by_cases hk : t.Keeps (markTime stamp t.prevY y) y
  · exact .inl ⟨hk, Tracker.stageMark_of_keeps hk⟩
  · refine .inr ⟨hk, ?_⟩
    by_cases hfound : t.armed = true ∧ t.prevY < 0 ∧ 0 ≤ y
    · obtain ⟨i, hi, hclose⟩ : ∃ i, t.intervalTo (markTime stamp t.prevY y) = some i ∧ i < 128 := by
        simpa [Tracker.Keeps, hfound] using hk
      rw [Tracker.stageMark_of_close hfound hi hclose, (markFound_iff _ _ _).mpr hfound]
      simp
    · rw [Tracker.stageMark_of_not_found stamp hfound, Bool.eq_false_iff.mpr (mt (markFound_iff _ _ _).mp hfound)]
      simp

/-! ### The stages behind the mark (R54, R60, R64) -/

theorem Tracker.stageStall_eq (t : Tracker) (kept : Bool) : t.stageStall kept =
    { t with stall := if t.lastMark.isSome && !kept then t.stall + 1 else t.stall } := by
  unfold Tracker.stageStall
  split
  · rfl
  · rfl

theorem Tracker.stageArm_eq (t : Tracker) (y : Int) : t.stageArm y =
    { t with armed := t.armed || decide (y ≤ -(armLevel t.e : Int)) } := by
  unfold Tracker.stageArm
  split
  · next h => simp [h]
  · next h => simp [h]

/-- All that a vote reads and counts: state, working copy, history and the two counters. -/
def Tracker.ballot (t : Tracker) : TrackState × WorkingCopy × List Nat × Half × Half :=
  (t.state, t.copy, t.history, t.noise, t.reject)

theorem Tracker.stageVote_congr {t u : Tracker} (h : u.ballot = t.ballot) (rate : Rate) (offset : Int)
    (entered : Bool) :
    (u.stageVote rate offset entered).2 = (t.stageVote rate offset entered).2 ∧
    (u.stageVote rate offset entered).1.noise = (t.stageVote rate offset entered).1.noise ∧
    (u.stageVote rate offset entered).1.reject = (t.stageVote rate offset entered).1.reject := by
  simp only [Tracker.ballot, Prod.mk.injEq] at h
  obtain ⟨hstate, hcopy, hhistory, hnoise, hreject⟩ := h
  unfold Tracker.stageVote
  rw [hstate, hcopy, hhistory]
  split
  · split
    · simp only [Tracker.checkPitch, hcopy]
      split
      · exact ⟨rfl, hnoise, hreject⟩
      · exact ⟨rfl, hnoise, by rw [hreject]⟩
    · simp only [Tracker.checkPitch]
      split
      · exact ⟨rfl, by rw [hnoise], hreject⟩
      · exact ⟨rfl, by rw [hnoise], by rw [hreject]⟩
    · exact ⟨rfl, hnoise, by rw [hreject]⟩
    · exact ⟨rfl, hnoise, hreject⟩
  · exact ⟨rfl, hnoise, hreject⟩

/-! ### The seven stages (R50) -/

/-- The tracker behind stages 1 and 2: envelope and period peak (R51, R57). -/
def Tracker.metered (t : Tracker) (y : Int) : Tracker :=
  { t with e := envelope t.copy.decay t.e y, curPeak := min 32767 (max t.curPeak y.natAbs) }

/-- Stages 5 and 6 and the sample that is kept, behind the mark test, with the counters of a vote. -/
def Tracker.closed (d : Tracker) (kept : Bool) (y : Int) (noise reject : Half) : Tracker :=
  { d with
    stall := if d.lastMark.isSome && !kept then d.stall + 1 else d.stall,
    armed := d.armed || decide (y ≤ -(armLevel d.e : Int)),
    prevY := y, noise := noise, reject := reject }

theorem Tracker.measure_eq (t : Tracker) (rate : Rate) (offset : Int) (stamp : Stamp) (y : Int) :
    let d := (t.metered y).stageMark stamp y
    let v := d.1.stageVote rate offset d.2.entered
    t.measure rate offset stamp y =
      ⟨d.1.closed d.2.kept.isSome y v.1.noise v.1.reject, d.2.kept, v.2⟩ := by
  intro d v
  have hballot : ((d.1.stageStall d.2.kept.isSome).stageArm y).ballot = d.1.ballot := by
    rw [Tracker.stageArm_eq, Tracker.stageStall_eq]
    rfl
  obtain ⟨haccepted, hnoise, hreject⟩ := Tracker.stageVote_congr hballot rate offset d.2.entered
  have hmeasure : t.measure rate offset stamp y =
      ⟨{ (((d.1.stageStall d.2.kept.isSome).stageArm y).stageVote rate offset d.2.entered).1 with prevY := y },
        d.2.kept, (((d.1.stageStall d.2.kept.isSome).stageArm y).stageVote rate offset d.2.entered).2⟩ := rfl
  rw [hmeasure, Tracker.stageVote_eq, haccepted, hnoise, hreject, Tracker.stageArm_eq, Tracker.stageStall_eq]
  rfl

theorem enterInterval_eq (h : List Nat) (i : Nat) :
    enterInterval h i = (if h.length < 3 then h else h.tail) ++ [i] := by
  unfold enterInterval
  split <;> rfl

theorem historyAfter_eq (h : List Nat) (interval : Option Nat) : historyAfter h interval =
    match interval with
    | none => h
    | some i => if 20000 < i then [] else (if h.length < 3 then h else h.tail) ++ [i] := by
  cases interval with
  | none => rfl
  | some i => simp only [historyAfter, enterInterval_eq]

/-- A sample at which a mark is kept: the history it leaves is the one voted on (R50, R58, R64). -/
theorem Tracker.measure_of_keeps {t : Tracker} (rate : Rate) (offset : Int) {stamp : Stamp} {y : Int}
    (h : (t.metered y).Keeps (markTime stamp t.prevY y) y) :
    let m := markTime stamp t.prevY y
    let v := Tracker.stageVote { t with history := historyAfter t.history (t.intervalTo m) } rate offset
      ((t.intervalTo m).any fun i => decide (i ≤ 20000))
    t.measure rate offset stamp y = ⟨((t.metered y).marked m).closed true y v.1.noise v.1.reject,
      some ((t.metered y).curPeak, t.prevPeak), v.2⟩ := by
  intro m v
  have hmark : (t.metered y).stageMark stamp y = ((t.metered y).marked m, ⟨some ((t.metered y).curPeak, t.prevPeak),
      (t.intervalTo m).any fun i => decide (i ≤ 20000)⟩) := Tracker.stageMark_of_keeps h
  obtain ⟨haccepted, hnoise, hreject⟩ :=
    Tracker.stageVote_congr (t := { t with history := historyAfter t.history (t.intervalTo m) })
      (u := (t.metered y).marked m) rfl rate offset
      ((t.intervalTo m).any fun i => decide (i ≤ 20000))
  rw [t.measure_eq, hmark, haccepted, hnoise, hreject]
  rfl

/-- A sample at which no mark is kept: nothing is voted on (R50, R60, R64). -/
theorem Tracker.measure_of_not_keeps {t : Tracker} (rate : Rate) (offset : Int) {stamp : Stamp} {y : Int}
    (h : ¬ (t.metered y).Keeps (markTime stamp t.prevY y) y) :
    t.measure rate offset stamp y =
      ⟨Tracker.closed { t.metered y with armed := t.armed && !markFound t.armed t.prevY y } false y t.noise t.reject,
        none, none⟩ := by
  obtain ⟨hk, -⟩ | ⟨-, hmark⟩ := (t.metered y).stageMark_cases stamp y
  · exact absurd hk h
  · rw [t.measure_eq, hmark, Tracker.stageVote_of_no_vote rate offset (.inl rfl)]
    rfl

/-- A measured tracker holds its state, note, bank, working copy and timers as they were (R50). -/
theorem Tracker.measure_keeps (t : Tracker) (rate : Rate) (offset : Int) (stamp : Stamp) (y : Int) :
    let k := (t.measure rate offset stamp y).tracker
    k.state = t.state ∧ k.note = t.note ∧ k.bank = t.bank ∧ k.copy = t.copy ∧ k.onsetTimer = t.onsetTimer ∧
    k.releaseTimer = t.releaseTimer ∧ k.levelTimer = t.levelTimer ∧ k.onsetPeak = t.onsetPeak := by
  by_cases h : (t.metered y).Keeps (markTime stamp t.prevY y) y
  · rw [Tracker.measure_of_keeps rate offset h]
    exact ⟨rfl, rfl, rfl, rfl, rfl, rfl, rfl, rfl⟩
  · rw [Tracker.measure_of_not_keeps rate offset h]
    exact ⟨rfl, rfl, rfl, rfl, rfl, rfl, rfl, rfl⟩

/-- Settles O20: a sample keeps a mark or none, and each leaves what its equation says. -/
theorem measuringStages : Obligations.MeasuringStages := by
  intro t rate offset stamp y r e peak found mark interval kept entered vote
  have hmark (h : found) : markTime stamp t.prevY y = mark := by
    obtain ⟨-, hp, hy⟩ := h
    rw [markTime, markFraction_of_crossing hp hy]
  have hkeeps : (t.metered y).Keeps (markTime stamp t.prevY y) y ↔ kept :=
    and_congr_right fun h => by rw [hmark h]; rfl
  by_cases hk : kept
  · obtain ⟨hfound, hmin⟩ := id hk
    have hentered : entered = interval.any fun i => decide (i ≤ 20000) := by
      cases hi : interval with
      | none => simp [entered, hi]
      | some i => simp [entered, hi, hfound, hmin i hi]
    have hr : r = _ := Tracker.measure_of_keeps rate offset (hkeeps.mpr hk)
    rw [hmark hfound] at hr
    have hvote : vote = Tracker.stageVote { t with history := historyAfter t.history interval } rate offset
        (interval.any fun i => decide (i ≤ 20000)) := by
      rw [← hentered]
      simp only [vote, hr]
      rfl
    rw [hr, hvote]
    refine ⟨rfl, rfl, rfl, fun hno => ?_, rfl, rfl, ?_, fun _ => ⟨rfl, rfl, rfl, rfl, rfl, historyAfter_eq _ _⟩,
      fun h => absurd hk h, rfl, rfl, rfl, rfl, rfl, rfl, rfl, rfl, rfl, rfl, rfl, rfl, rfl, rfl⟩
    · have hnone := Tracker.stageVote_of_no_vote (t := { t with history := historyAfter t.history interval }) rate
        offset (.inl (hentered.symm.trans hno))
      refine ⟨?_, ?_, ?_⟩
      · exact congrArg Prod.snd hnone
      · exact congrArg (fun v => v.1.noise) hnone
      · exact congrArg (fun v => v.1.reject) hnone
    · simp [Tracker.closed, Tracker.marked, Tracker.metered, armLevel, hfound, e, envelope]
  · have hentered : entered = false := by
      by_cases hfound : found
      · obtain ⟨i, hi, hclose⟩ : ∃ i, interval = some i ∧ i < 128 := by simpa [kept, hfound] using hk
        simp [entered, hi, hclose]
      · simp [entered, hfound]
    have hr : r = _ := Tracker.measure_of_not_keeps rate offset (mt hkeeps.mp hk)
    have hvote : vote = ({ t with history := r.tracker.history }, none) :=
      Tracker.stageVote_of_no_vote rate offset (.inl hentered)
    rw [hvote, hr]
    refine ⟨rfl, rfl, rfl, fun _ => ⟨rfl, rfl, rfl⟩, rfl, rfl, ?_, fun h => absurd h hk,
      fun _ => ⟨rfl, rfl, rfl, ?_, rfl, rfl, rfl, rfl, rfl⟩,
      rfl, rfl, rfl, rfl, rfl, rfl, rfl, rfl, rfl, rfl, rfl, rfl, rfl, rfl⟩
    · have hfound : (t.armed && !markFound t.armed t.prevY y) = true ↔ t.armed = true ∧ ¬ found := by
        rw [Bool.and_eq_true, Bool.not_eq_true', ← Bool.not_eq_true, markFound_iff]
      change ((t.armed && !markFound t.armed t.prevY y) || decide (y ≤ -(armLevel e : Int))) = true ↔ _
      rw [Bool.or_eq_true, decide_eq_true_eq, hfound]
      exact or_comm
    · simp [Tracker.closed, Tracker.metered]

end Sys2Proof.Machine
end

section
/-!
PROOF. A sample in MUTED and in SILENT with the clearings before its stages, and the ends of a tracker's stall,
onset, release and level counts (R50, R52, R54, R57, R60, R61, R77, R80, R81, R83, R87, R88, R90).
-/

namespace Sys2Proof.Machine

/-! ### The clearings before the stages (R52, R54, R57, R61) -/

theorem clearingsAct : Claims.ClearingsAct := by
  intro t
  by_cases he : t.clearE = true <;> by_cases hh : t.clearHistory = true <;> by_cases hd : t.clearDetector = true
  all_goals simp [Tracker.applyClears, Tracker.clearedHistory, he, hh, hd]

/-! ### A sample in MUTED and in SILENT (R50, R80, R97) -/

theorem mutedSample : Claims.MutedSample := by
  intro s n y h
  have hm : (s.trackers.get n).applyClears.state = .muted := by rw [Tracker.applyClears_state, h]
  rw [State.trackerSample_eq, hm, State.sampled, if_pos hm]
  rfl

/-- What an onset makes of a learn rests on the learn, the stamp and the flags alone. -/
theorem State.learnOnset_congr {s t : State} (hl : t.learn = s.learn) (hs : t.siu.stamp = s.siu.stamp)
    (hp : t.ports = s.ports) (n : StringNo) :
    (t.learnOnset n).learn = (s.learnOnset n).learn ∧ (t.learnOnset n).ports = (s.learnOnset n).ports := by
  cases ho : s.learn.state.open? with
  | none => simp [State.learnOnset, hl, ho, hp]
  | some g =>
    have hfail : (t.failLearn .disturbed).learn = (s.failLearn .disturbed).learn ∧
        (t.failLearn .disturbed).ports = (s.failLearn .disturbed).ports := by
      simp [State.failLearn, State.endLearn, State.raise, State.updPort, hl, ho, hs, hp]
    unfold State.learnOnset
    rw [hl, ho]
    dsimp only
    split
    · split
      · split
        · exact ⟨rfl, hp⟩
        · exact ⟨hl, hp⟩
      · exact ⟨hl, hp⟩
    · exact hfail

/-- An onset reports itself to the Learn Engine, and does nothing else to it or to the flags (R80). -/
theorem State.beginOnset_learn (s : State) (n : StringNo) (peak : Nat) :
    (s.beginOnset n peak).learn = (s.learnOnset n).learn ∧
    (s.beginOnset n peak).ports = (s.learnOnset n).ports :=
  State.learnOnset_congr (by simp) (by simp) (by simp) n

theorem silentSample : Claims.SilentSample := by
  intro s n y h r t onset
  have hstate : (s.trackers.get n).applyClears.state = .silent := by rw [Tracker.applyClears_state, h]
  have hsampled : s.sampled n y = r.tracker := if_neg (by rw [hstate]; nofun)
  have ht : t = _ := s.trackerSample_eq n y
  rw [hstate, hsampled] at ht
  obtain ⟨-, -, hbank, -⟩ := (s.trackers.get n).applyClears.measure_keeps s.siu.rate s.store.global.offset
    s.siu.stamp y
  have hadoption : (s.updTracker n fun _ => r.tracker).adoption n = s.adoption n := by
    simp only [State.adoption, State.updTracker_same, State.updTracker_store, r, hbank, Tracker.applyClears_bank]
  obtain ⟨hother, hown, hwaits⟩ := (s.updTracker n fun _ => r.tracker).beginOnset_spec n r.tracker.e
  obtain ⟨hlearn, hports⟩ := (s.updTracker n fun _ => r.tracker).beginOnset_learn n r.tracker.e
  obtain ⟨hlearn', hports'⟩ := State.learnOnset_congr (s := s) (t := s.updTracker n fun _ => r.tracker) rfl rfl rfl n
  by_cases ho : onset
  · rw [ht.trans (if_pos ho), if_pos ho, if_pos ho, if_pos ho]
    refine ⟨fun m hm => ?_, ?_, hlearn.trans hlearn', hports.trans hports', fun p => ?_⟩
    · rw [hother m hm, State.updTracker_get, if_neg hm]
    · rw [hown, State.updTracker_same]
      rfl
    · rw [hwaits, hadoption, if_pos ho]
      rfl
  · rw [ht.trans (if_neg ho), if_neg ho, if_neg ho, if_neg ho]
    refine ⟨fun m hm => ?_, State.updTracker_same _ _ _, rfl, rfl, fun p => by rw [if_neg ho]; rfl⟩
    rw [State.updTracker_get, if_neg hm]

/-- Settles O25. -/
theorem mutedAndSilentSample : Obligations.MutedAndSilentSample := ⟨mutedSample, silentSample, clearingsAct⟩

/-! ### The ends of the counts (R60, R83, R87, R88) -/

theorem exec_stall (n : StringNo) (s : State) : exec (.stall n) s = .next (s.takeStall n) := rfl
theorem exec_onsetTimeout (n : StringNo) (s : State) : exec (.onsetTimeout n) s = .next (s.takeTimeout n) := rfl
theorem exec_releaseTimerEnd (n : StringNo) (s : State) :
    exec (.releaseTimerEnd n) s = .next (s.takeRelease n) := rfl
theorem exec_levelTimer (n : StringNo) (s : State) : exec (.levelTimer n) s = .next (s.takeLevel n) := rfl

theorem Tracker.stallDue_iff (t : Tracker) : t.stallDue = true ↔ 1250 ≤ t.stall := decide_eq_true_iff

theorem Tracker.timeoutDue_iff (t : Tracker) : t.timeoutDue = true ↔
    t.state = .onset ∧ ∃ k, t.onsetTimer = some k ∧ t.copy.onsetTimeout < k := by
  simp only [Tracker.timeoutDue, Bool.and_eq_true, beq_iff_eq]
  cases t.onsetTimer <;> simp

theorem Tracker.releaseDue_iff (t : Tracker) :
    t.releaseDue = true ↔ t.state = .releasing ∧ t.releaseTimer = some 0 := by
  simp only [Tracker.releaseDue, Bool.and_eq_true, beq_iff_eq]

theorem Tracker.levelDue_iff (t : Tracker) : t.levelDue = true ↔
    (t.state = .sounding ∨ t.state = .releasing) ∧ ∃ k, t.levelTimer = some k ∧ 240 ≤ k := by
  have hperiod (k : Nat) : decide (Config.levelPeriod ≤ k) = true ↔ 240 ≤ k := decide_eq_true_iff
  simp only [Tracker.levelDue, Bool.and_eq_true, Bool.or_eq_true, beq_iff_eq]
  cases t.levelTimer <;> simp [hperiod]

/-- An entry to SILENT as one change of its tracker, and the notice of a bank adopted (R81, R91). -/
theorem State.enterSilent_eq (s : State) (n : StringNo) : s.enterSilent n =
    (s.adoption n).foldl (fun u pub => u.publish (.tracker n) pub) (s.updTracker n fun k => s.silentEntry n k) := by
  by_cases hb : (s.trackers.get n).bank = s.store.requested.get n
  · simp [State.enterSilent, State.adoptBank, State.takeCopy, State.adoption, State.silentEntry, State.updTracker,
      State.copyFor, State.floorOf, hb]
  · simp [State.enterSilent, State.adoptBank, State.takeCopy, State.adoption, State.silentEntry, State.updTracker,
      State.copyFor, State.floorOf, hb, State.publish, State.updStream]

theorem State.updTracker_updTracker (s : State) (n : StringNo) (f g : Tracker → Tracker) :
    (s.updTracker n f).updTracker n g = s.updTracker n fun k => g (f k) := by
  simp [State.updTracker]

theorem countsEnd : Claims.CountsEnd := by
  intro n s t
  rw [exec_stall, exec_onsetTimeout, exec_levelTimer]
  refine ⟨?_, ?_, fun h hn => ?_⟩
  · simp only [State.takeStall, Tracker.stallDue_iff]
    rfl
  · simp only [State.takeTimeout, Tracker.timeoutDue_iff]
    congr 1
    split
    · have hadoption : (s.updTracker n fun k => { k with ghost := k.ghost + 1 }).adoption n = s.adoption n := by
        simp [State.adoption]
      rw [State.ghost, State.enterSilent_eq, State.updTracker_updTracker, hadoption]
      rfl
    · rfl
  · simp only [State.takeLevel, Tracker.levelDue_iff]
    congr 1
    split
    · rw [State.publishTrack_of_note hn]
      rfl
    · rfl

theorem releaseTimerEnds : Claims.ReleaseTimerEnds := by
  intro n s h hn
  rw [exec_releaseTimerEnd]
  simp only [State.takeRelease, Tracker.releaseDue_iff]
  congr 1
  split
  · rw [State.publishTrack_of_note hn, State.enterSilent_eq]
    rfl
  · rfl

/-- Settles O29. -/
theorem trackerCountsEnd : Obligations.TrackerCountsEnd := ⟨countsEnd, releaseTimerEnds⟩

end Sys2Proof.Machine
end

section
/-!
PROOF. The pitch of a candidate period is the exactly rounded logarithm (R66, R67): its comparison of whole numbers
is the floor of a real logarithm, and that floor halved is the nearest integer.
-/

namespace Sys2Proof.Machine

/-! ### The binary logarithm of a scaled power -/

/-- The binary logarithm of a whole number is that of any real number with it as its integer part, rounded
down. -/
theorem log2_floor {x : ℝ} (h : 1 ≤ x) : ((⌊x⌋₊.log2 : ℕ) : ℤ) = ⌊Real.logb 2 x⌋ := by
  have hfloor := Real.floor_logb_natCast (b := 2) (zero_le_one.trans h)
  rw [Int.log_of_one_le_right _ h] at hfloor
  rw [Nat.log2_eq_log_two]
  exact hfloor.symm

/-- Scaled by 2^k to 1 or more, the n-th power of a fraction has the binary logarithm n times its own, rounded
down behind the scaling. -/
theorem log2_scaled_pow {a b n k : ℕ} (ha : 0 < a) (hb : 0 < b) (h : b ^ n ≤ a ^ n * 2 ^ k) :
    ((a ^ n * 2 ^ k / b ^ n).log2 : ℤ) = ⌊(n : ℝ) * Real.logb 2 ((a : ℝ) / b)⌋ + k := by
  have ha' : (0 : ℝ) < a := Nat.cast_pos.mpr ha
  have hb' : (0 : ℝ) < b := Nat.cast_pos.mpr hb
  have hone : (1 : ℝ) ≤ ((a ^ n * 2 ^ k : ℕ) : ℝ) / (b ^ n : ℕ) := by
    rw [one_le_div (by positivity)]
    exact_mod_cast h
  have hlog : Real.logb 2 (((a ^ n * 2 ^ k : ℕ) : ℝ) / (b ^ n : ℕ)) = n * Real.logb 2 ((a : ℝ) / b) + (k : ℤ) := by
    have hsplit : ((a ^ n * 2 ^ k : ℕ) : ℝ) / (b ^ n : ℕ) = ((a : ℝ) / b) ^ n * 2 ^ k := by
      push_cast
      rw [div_pow]
      ring
    rw [hsplit, Real.logb_mul (by positivity) (by positivity), Real.logb_pow, Real.logb_pow,
      Real.logb_self_eq_one (by norm_num)]
    simp
  rw [← Nat.floor_div_eq_div (K := ℝ), log2_floor hone, hlog, Int.floor_add_intCast]

/-! ### The pitch (R66, R67) -/

/-- The true pitch of a period at a sample rate in hertz (R67). -/
noncomputable def truePitch (fs p : ℕ) : ℝ := 6900 + 1200 * Real.logb 2 (16 * (fs : ℝ) / (440 * (p : ℝ)))

theorem pow_le_pow_mul_two_pow {a b j n k : ℕ} (h : a ≤ b * 2 ^ j) (hk : j * n ≤ k) : a ^ n ≤ b ^ n * 2 ^ k :=
  calc a ^ n ≤ (b * 2 ^ j) ^ n := Nat.pow_le_pow_left h n
    _ = b ^ n * 2 ^ (j * n) := by rw [Nat.mul_pow, Nat.pow_mul]
    _ ≤ b ^ n * 2 ^ k := Nat.mul_le_mul_left _ (Nat.pow_le_pow_right (by decide) hk)

/-- Every period of 128..20000 is scaled to 1 or more. -/
theorem period_scaled {fs p : ℕ} (hfs : 44100 ≤ fs) (hp : p ≤ 20000) :
    (440 * p) ^ 2400 ≤ (16 * fs) ^ 2400 * 2 ^ 16384 :=
  pow_le_pow_mul_two_pow (j := 6) (by omega) (by decide)

theorem nearestPitch_eq {fs p : ℕ} (hfs : 44100 ≤ fs) (hp : 0 < p) (hp' : p ≤ 20000) :
    nearestPitch fs p = ⌊truePitch fs p + 1 / 2⌋ := by
  have hlog := log2_scaled_pow (by omega) (by omega) (period_scaled hfs hp')
  have hhalf : truePitch fs p + 1 / 2 =
      (((2400 : ℕ) : ℝ) * Real.logb 2 (((16 * fs : ℕ) : ℝ) / (440 * p : ℕ)) + (13801 : ℤ)) / (2 : ℕ) := by
    rw [truePitch]
    push_cast
    ring
  rw [nearestPitch, hlog, hhalf, Int.floor_div_natCast, Int.floor_add_intCast]
  simp

/-- A true pitch halfway between two integers would make a power of a fraction with an even exponent a power of
2 with an odd one. -/
theorem truePitch_ne_half {fs p : ℕ} (hfs : 0 < fs) (hp : 0 < p) (z : ℤ) : truePitch fs p ≠ (z : ℝ) + 1 / 2 := by
  intro hz
  have hfs' : (0 : ℝ) < fs := Nat.cast_pos.mpr hfs
  have hp' : (0 : ℝ) < p := Nat.cast_pos.mpr hp
  have hlog : Real.logb 2 ((16 * (fs : ℝ) / (440 * (p : ℝ))) ^ 2400) = ((2 * z - 13799 : ℤ) : ℝ) := by
    rw [Real.logb_pow]
    rw [truePitch] at hz
    push_cast
    linarith
  have hreal : (16 * (fs : ℝ) / (440 * (p : ℝ))) ^ 2400 = 2 ^ (2 * z - 13799 : ℤ) := by
    rw [← Real.rpow_intCast, ← hlog, Real.rpow_logb (by norm_num) (by norm_num) (by positivity)]
  have hrat : (16 * (fs : ℚ) / (440 * (p : ℚ))) ^ 2400 = 2 ^ (2 * z - 13799 : ℤ) := by
    refine Rat.cast_injective (α := ℝ) ?_
    push_cast
    exact hreal
  have hval := congrArg (padicValRat 2) hrat
  have hself : padicValRat 2 2 = 1 := padicValRat.self (p := 2) (by decide)
  rw [padicValRat.pow, padicValRat.zpow, hself] at hval
  push_cast at hval
  omega

theorem truePitch_antitone {fs p q : ℕ} (hfs : 0 < fs) (hp : 0 < p) (h : p ≤ q) :
    truePitch fs q ≤ truePitch fs p := by
  have hfs' : (0 : ℝ) < fs := Nat.cast_pos.mpr hfs
  have hp' : (0 : ℝ) < p := Nat.cast_pos.mpr hp
  have hq' : (0 : ℝ) < q := Nat.cast_pos.mpr (hp.trans_le h)
  have hpq : (p : ℝ) ≤ q := Nat.cast_le.mpr h
  have hratio : 16 * (fs : ℝ) / (440 * (q : ℝ)) ≤ 16 * (fs : ℝ) / (440 * (p : ℝ)) := by gcongr
  have hlog := Real.logb_le_logb_of_le (b := 2) (by norm_num) (by positivity) hratio
  unfold truePitch
  linarith

theorem Rate.hz_bounds (rate : Rate) : 44100 ≤ rate.hz := by
  cases rate <;> decide

/-- Settles O23. -/
theorem pitchIsExactlyRounded : Obligations.PitchIsExactlyRounded := by
  intro rate offset p hp hp' fs v
  have hrate := rate.hz_bounds
  have hv : v = truePitch rate.hz p := by
    cases rate <;> simp [v, fs, truePitch, Rate.hz]
  rw [hv]
  have hpitch (q : ℕ) (hq : 0 < q) (hq' : q ≤ 20000) :
      pitchOf rate offset q = ⌊truePitch rate.hz q + 1 / 2⌋ - offset := by
    rw [pitchOf, nearestPitch_eq hrate hq hq']
  refine ⟨hpitch p (by omega) hp', fun z => truePitch_ne_half (by omega) (by omega) z, fun q hq hq' => ?_⟩
  rw [hpitch p (by omega) hp', hpitch q (by omega) hq']
  have hle := truePitch_antitone (fs := rate.hz) (by omega) (by omega) hq
  gcongr

end Sys2Proof.Machine
end

section
/-!
SUPPORT. The invariant of a tracker in its parts, and what keeps them: the entries to SILENT, ONSET and MUTED, the
clearings, and the measuring stages (R51, R57, R58, R59, R60, R74, R76, R78).
-/

namespace Sys2Proof.Machine

/-! ### The invariant in its parts -/

/-- A note is held in SOUNDING and RELEASING (R74). -/
def TrackState.sounds (st : TrackState) : Bool := st == .sounding || st == .releasing

/-- What the state says of a tracker: its note and timers are those of the state, the note lies in its ranges, and
the working copy holds a window and a gate pair (R74, R75, R76, R82, R87, R88). -/
structure Tracker.Staged (t : Tracker) : Prop where
  note : t.note.isSome = t.state.sounds
  level : t.levelTimer.isSome = t.state.sounds
  onset : t.onsetTimer.isSome = (t.state == .onset)
  release : t.releaseTimer.isSome = (t.state == .releasing)
  held : t.noteOk = true
  copy : t.copy.ok = true

/-- The registers of the measuring stages lie in their ranges (R51, R57, R58, R59, R60, R78). -/
structure Tracker.Ranged (t : Tracker) : Prop where
  muted : t.state = .muted → t.e = 0
  envelope : t.e ≤ 32767
  curPeak : t.curPeak ≤ 32767
  prevPeak : t.prevPeak ≤ 32767
  onsetPeak : t.onsetPeak ≤ 32767
  sample : -32768 ≤ t.prevY ∧ t.prevY ≤ 32767
  length : t.history.length ≤ 3
  interval : ∀ i ∈ t.history, 128 ≤ i ∧ i ≤ 20000
  unmarked : t.lastMark = none → t.history = [] ∧ t.stall = 0
  stall : t.stall ≤ 1250

/-- A tracker is as it must be. -/
structure Tracker.Fine (t : Tracker) : Prop where
  staged : t.Staged
  ranged : t.Ranged

theorem Tracker.ok_iff (t : Tracker) : t.ok = true ↔ t.Fine := by
  have hmuted : (t.state != .muted || t.e == 0) = true ↔ (t.state = .muted → t.e = 0) := by
    simp [or_iff_not_imp_left]
  have hmark : (t.lastMark.isSome || (t.history.isEmpty && t.stall == 0)) = true ↔
      (t.lastMark = none → t.history = [] ∧ t.stall = 0) := by
    cases t.lastMark <;> simp
  simp only [Tracker.ok, Bool.and_eq_true, beq_iff_eq, decide_eq_true_eq, hmuted, hmark, List.all_eq_true, and_assoc]
  constructor
  · rintro ⟨hnote, hlevel, honset, hrelease, hm, hheld, hcopy, he, hcur, hprev, hpeak, hlow, hhigh, hlength, hint,
      hunmarked, hstall⟩
    exact ⟨⟨hnote, hlevel, honset, hrelease, hheld, hcopy⟩,
      ⟨hm, he, hcur, hprev, hpeak, ⟨hlow, hhigh⟩, hlength, hint, hunmarked, hstall⟩⟩
  · rintro ⟨⟨hnote, hlevel, honset, hrelease, hheld, hcopy⟩,
      ⟨hm, he, hcur, hprev, hpeak, ⟨hlow, hhigh⟩, hlength, hint, hunmarked, hstall⟩⟩
    exact ⟨hnote, hlevel, honset, hrelease, hm, hheld, hcopy, he, hcur, hprev, hpeak, hlow, hhigh, hlength, hint,
      hunmarked, hstall⟩

/-- What `Tracker.Staged` speaks of. -/
def Tracker.stage (t : Tracker) : TrackState × Option HeldNote × Option Nat × Option Nat × Option Nat × WorkingCopy :=
  (t.state, t.note, t.levelTimer, t.onsetTimer, t.releaseTimer, t.copy)

/-- The registers of the measuring stages. -/
def Tracker.registers (t : Tracker) : Nat × Nat × Nat × Int × List Nat × Option MarkTime × Nat :=
  (t.e, t.curPeak, t.prevPeak, t.prevY, t.history, t.lastMark, t.stall)

theorem Tracker.Staged.of_stage {t u : Tracker} (h : t.Staged) (hu : u.stage = t.stage) : u.Staged := by
  simp only [Tracker.stage, Prod.mk.injEq] at hu
  obtain ⟨hstate, hnote, hlevel, honset, hrelease, hcopy⟩ := hu
  have hheld : u.noteOk = t.noteOk := by rw [Tracker.noteOk, Tracker.noteOk, hnote, hcopy]
  exact ⟨by rw [hnote, hstate, h.note], by rw [hlevel, hstate, h.level], by rw [honset, hstate, h.onset],
    by rw [hrelease, hstate, h.release], hheld.trans h.held, by rw [hcopy, h.copy]⟩

theorem Tracker.Ranged.of_registers {t u : Tracker} (h : t.Ranged) (hu : u.registers = t.registers)
    (hm : u.state = .muted → t.state = .muted) (hp : u.onsetPeak ≤ 32767) : u.Ranged := by
  simp only [Tracker.registers, Prod.mk.injEq] at hu
  obtain ⟨he, hcur, hprev, hy, hhistory, hmark, hstall⟩ := hu
  refine ⟨fun hmuted => by rw [he, h.muted (hm hmuted)], ?_, ?_, ?_, hp, ?_, ?_, ?_, ?_, ?_⟩
  · rw [he]; exact h.envelope
  · rw [hcur]; exact h.curPeak
  · rw [hprev]; exact h.prevPeak
  · rw [hy]; exact h.sample
  · rw [hhistory]; exact h.length
  · rw [hhistory]; exact h.interval
  · rw [hmark, hhistory, hstall]; exact h.unmarked
  · rw [hstall]; exact h.stall

/-- A tracker whose measuring registers stand is fine once it is staged, outside MUTED. -/
theorem Tracker.Ranged.restage {t u : Tracker} (h : t.Ranged) (hu : u.registers = t.registers)
    (hp : u.onsetPeak = t.onsetPeak) (hm : u.state ≠ .muted) (hs : u.Staged) : u.Fine :=
  ⟨hs, h.of_registers hu (fun hmuted => absurd hmuted hm) (hp ▸ h.onsetPeak)⟩

/-- A change of what the invariant does not speak of. -/
theorem Tracker.Fine.of_same {t u : Tracker} (h : t.Fine) (hs : u.stage = t.stage) (hr : u.registers = t.registers)
    (hp : u.onsetPeak = t.onsetPeak) : u.Fine :=
  ⟨h.staged.of_stage hs, h.ranged.of_registers hr (fun hm => (congrArg Prod.fst hs).symm.trans hm)
    (hp ▸ h.ranged.onsetPeak)⟩

/-! ### The working copy (R75, R76) -/

/-- Every stored profile record is legal (R100, R101). -/
def State.ProfilesLegal (s : State) : Prop := ∀ k n, (s.store.profile k n).legal = true

theorem WorkingCopy.ok_iff (c : WorkingCopy) : c.ok = true ↔
    2800 ≤ c.windowLow ∧ c.windowHigh ≤ 10400 ∧ 64 ≤ c.gOn ∧ 8 ≤ c.gOff ∧ c.gOff < c.gOn := decide_eq_true_iff

/-- A gate_off of 2..15 leaves G_off below a G_on of 64 or more, and at 8 or more (R76). -/
theorem gateOffLevel_bounds {gOn gateOff : Nat} (h : 64 ≤ gOn) (hlo : 2 ≤ gateOff) (hhi : gateOff ≤ 15) :
    8 ≤ gateOffLevel gOn gateOff ∧ gateOffLevel gOn gateOff < gOn := by
  have hlow : gOn * 2 ≤ gOn * gateOff := Nat.mul_le_mul_left gOn hlo
  have hhigh : gOn * gateOff ≤ gOn * 15 := Nat.mul_le_mul_left gOn hhi
  unfold gateOffLevel
  omega

theorem copyOf_ok {r : Profile} (h : r.legal = true) (g : Grade) (floorUsed : Nat) :
    (copyOf r g floorUsed).ok = true := by
  obtain ⟨⟨hlow, -, hhigh⟩, ⟨-, -, hoff, hoff'⟩, -⟩ := r.legal_iff.mp h
  have hgate : 64 ≤ gateOnLevel floorUsed r.gateOn := Nat.le_max_left _ _
  exact (WorkingCopy.ok_iff _).mpr ⟨hlow, hhigh, hgate, gateOffLevel_bounds hgate hoff hoff'⟩

/-! ### The entries (R78, R80, R81) -/

theorem State.ProfilesLegal.silentEntry_fine {s : State} (h : s.ProfilesLegal) (n : StringNo) {t : Tracker}
    (ht : t.Ranged) : (s.silentEntry n t).Fine :=
  ht.restage rfl rfl nofun ⟨rfl, rfl, rfl, rfl, rfl, copyOf_ok (h _ _) _ _⟩

theorem State.ProfilesLegal.onsetEntry_fine {s : State} (h : s.ProfilesLegal) (n : StringNo) {peak : Nat}
    (hp : peak ≤ 32767) {t : Tracker} (ht : t.Ranged) : (s.onsetEntry n peak t).Fine :=
  ⟨⟨rfl, rfl, rfl, rfl, rfl, copyOf_ok (h _ _) _ _⟩, ht.of_registers rfl nofun hp⟩

theorem Tracker.Fine.mutedEntry {t : Tracker} (h : t.Fine) : t.mutedEntry.Fine := by
  exact ⟨⟨rfl, rfl, rfl, rfl, rfl, h.staged.copy⟩, ⟨fun _ => rfl, Nat.zero_le _, h.ranged.curPeak,
    h.ranged.prevPeak, h.ranged.onsetPeak, h.ranged.sample, h.ranged.length, h.ranged.interval, h.ranged.unmarked,
    h.ranged.stall⟩⟩

theorem Tracker.Fine.muted {t : Tracker} (h : t.Fine) : t.muted.Fine := by
  by_cases hm : t.state = .muted
  · rwa [Tracker.muted_of_muted hm]
  · rw [Tracker.muted_of_ne hm]
    exact h.mutedEntry

/-! ### The clearings (R52, R54, R57, R61) -/

theorem Tracker.Fine.clearedHistory {t : Tracker} (h : t.Fine) : t.clearedHistory.Fine :=
  ⟨h.staged.of_stage rfl, ⟨h.ranged.muted, h.ranged.envelope, h.ranged.curPeak, h.ranged.prevPeak,
    h.ranged.onsetPeak, h.ranged.sample, Nat.zero_le _, nofun, fun _ => ⟨rfl, rfl⟩, Nat.zero_le _⟩⟩

theorem Tracker.Fine.applyClears {t : Tracker} (h : t.Fine) : t.applyClears.Fine := by
  have henvelope : Tracker.Fine (if t.clearE then { t with e := 0 } else t) := by
    split
    · exact ⟨h.staged.of_stage rfl, ⟨fun _ => rfl, Nat.zero_le _, h.ranged.curPeak, h.ranged.prevPeak,
        h.ranged.onsetPeak, h.ranged.sample, h.ranged.length, h.ranged.interval, h.ranged.unmarked,
        h.ranged.stall⟩⟩
    · exact h
  have hhistory {t : Tracker} (h : t.Fine) : Tracker.Fine (if t.clearHistory then t.clearedHistory else t) := by
    split
    · exact h.clearedHistory
    · exact h
  have hdetector {t : Tracker} (h : t.Fine) : Tracker.Fine
      (if t.clearDetector then { t with armed := false, curPeak := 0, prevPeak := 0 } else t) := by
    split
    · exact ⟨h.staged.of_stage rfl, ⟨h.ranged.muted, h.ranged.envelope, Nat.zero_le _, Nat.zero_le _,
        h.ranged.onsetPeak, h.ranged.sample, h.ranged.length, h.ranged.interval, h.ranged.unmarked, h.ranged.stall⟩⟩
    · exact h
  exact (hdetector (hhistory henvelope)).of_same rfl rfl rfl

/-! ### The measuring stages (R51, R57, R58, R59, R60, R69) -/

theorem envelope_le {e : Nat} (h : e ≤ 32767) (decay : Nat) (y : Int) : envelope decay e y ≤ 32767 := by
  unfold envelope
  split
  · exact Nat.min_le_left _ _
  · exact (Nat.sub_le _ _).trans h

theorem historyAfter_length {h : List Nat} (hl : h.length ≤ 3) (interval : Option Nat) :
    (historyAfter h interval).length ≤ 3 := by
  cases interval with
  | none => exact hl
  | some i =>
    simp only [historyAfter, enterInterval]
    split
    · exact Nat.zero_le _
    · split
      · next hshort => simp; omega
      · simp; omega

theorem historyAfter_bounds {h : List Nat} (hb : ∀ i ∈ h, 128 ≤ i ∧ i ≤ 20000) {interval : Option Nat}
    (hi : ∀ i, interval = some i → 128 ≤ i) : ∀ i ∈ historyAfter h interval, 128 ≤ i ∧ i ≤ 20000 := by
  cases interval with
  | none => exact hb
  | some j =>
    have hj := hi j rfl
    simp only [historyAfter, enterInterval]
    intro i hmem
    split at hmem
    · cases hmem
    · next hlong =>
      split at hmem
      · obtain hold | hnew := List.mem_append.mp hmem
        · exact hb i hold
        · rw [List.mem_singleton.mp hnew]
          exact ⟨hj, Nat.not_lt.mp hlong⟩
      · obtain hold | hnew := List.mem_append.mp hmem
        · exact hb i (List.mem_of_mem_tail hold)
        · rw [List.mem_singleton.mp hnew]
          exact ⟨hj, Nat.not_lt.mp hlong⟩

/-- A sample outside MUTED leaves the registers in their ranges where no stall was due. -/
theorem Tracker.Ranged.measure {t : Tracker} (h : t.Ranged) (hm : t.state ≠ .muted) (hstall : t.stall < 1250)
    (rate : Rate) (offset : Int) (stamp : Stamp) {y : Int} (hy : -32768 ≤ y ∧ y ≤ 32767) :
    (t.measure rate offset stamp y).tracker.Ranged := by
  have henv := envelope_le h.envelope t.copy.decay y
  have hpeak : min 32767 (max t.curPeak y.natAbs) ≤ 32767 := Nat.min_le_left _ _
  by_cases hk : (t.metered y).Keeps (markTime stamp t.prevY y) y
  · rw [Tracker.measure_of_keeps rate offset hk]
    obtain ⟨-, hmin⟩ := hk
    exact ⟨fun hmuted => absurd hmuted hm, henv, Nat.zero_le _, hpeak, h.onsetPeak, hy,
      historyAfter_length h.length _, historyAfter_bounds h.interval hmin, nofun, Nat.zero_le _⟩
  · rw [Tracker.measure_of_not_keeps rate offset hk]
    refine ⟨fun hmuted => absurd hmuted hm, henv, hpeak, h.prevPeak, h.onsetPeak, hy, h.length, h.interval,
      fun hl => ?_, ?_⟩
    · have hl : t.lastMark = none := hl
      obtain ⟨hhistory, hzero⟩ := h.unmarked hl
      have hcount : (if t.lastMark.isSome && !false then t.stall + 1 else t.stall) = 0 := by simp [hl, hzero]
      exact ⟨hhistory, hcount⟩
    · have hcount : (if t.lastMark.isSome && !false then t.stall + 1 else t.stall) ≤ 1250 := by
        split_ifs <;> omega
      exact hcount

theorem Tracker.Fine.measure {t : Tracker} (h : t.Fine) (hm : t.state ≠ .muted) (hstall : t.stall < 1250)
    (rate : Rate) (offset : Int) (stamp : Stamp) {y : Int} (hy : -32768 ≤ y ∧ y ≤ 32767) :
    (t.measure rate offset stamp y).tracker.Fine := by
  obtain ⟨hstate, hnote, -, hcopy, honset, hrelease, hlevel, -⟩ := t.measure_keeps rate offset stamp y
  exact ⟨h.staged.of_stage (by simp only [Tracker.stage, hstate, hnote, hcopy, honset, hrelease, hlevel]),
    h.ranged.measure hm hstall rate offset stamp hy⟩

/-- The period peak of a kept mark is capped (R57). -/
theorem Tracker.measure_kept_le {t : Tracker} {rate : Rate} {offset : Int} {stamp : Stamp} {y : Int} {k : Nat × Nat}
    (h : (t.measure rate offset stamp y).kept = some k) : k.1 ≤ 32767 := by
  by_cases hk : (t.metered y).Keeps (markTime stamp t.prevY y) y
  · rw [Tracker.measure_of_keeps rate offset hk] at h
    cases h
    exact Nat.min_le_left _ _
  · rw [Tracker.measure_of_not_keeps rate offset hk] at h
    cases h

/-- A pitch that is accepted lies in the window of the working copy (R69). -/
def WorkingCopy.Admits (c : WorkingCopy) (v : Int) : Prop := (c.windowLow : Int) ≤ v ∧ v ≤ (c.windowHigh : Int)

theorem Tracker.checkPitch_admits {t : Tracker} {v w : Int} (h : (t.checkPitch v).2 = some w) : t.copy.Admits w := by
  rw [Tracker.checkPitch_if] at h
  split at h
  · next hin =>
    cases h
    exact hin
  · cases h

theorem Tracker.stageVote_admits {t : Tracker} {rate : Rate} {offset : Int} {entered : Bool} {w : Int}
    (h : (t.stageVote rate offset entered).2 = some w) : t.copy.Admits w := by
  unfold Tracker.stageVote at h
  split at h
  · split at h
    · exact Tracker.checkPitch_admits h
    · exact Tracker.checkPitch_admits (t := { t with noise := t.noise + 1 }) h
    · cases h
    · cases h
  · cases h

theorem Tracker.measure_admits {t : Tracker} {rate : Rate} {offset : Int} {stamp : Stamp} {y : Int} {w : Int}
    (h : (t.measure rate offset stamp y).accepted = some w) : t.copy.Admits w := by
  by_cases hk : (t.metered y).Keeps (markTime stamp t.prevY y) y
  · rw [Tracker.measure_of_keeps rate offset hk] at h
    exact Tracker.stageVote_admits (t := { t with history := historyAfter t.history _ }) h
  · rw [Tracker.measure_of_not_keeps rate offset hk] at h
    cases h

end Sys2Proof.Machine
end

section
/-!
SUPPORT. What keeps the invariant of the trackers: the boundaries and the events of each tracker, and one sample
with its decision (R50, R78 to R88).
-/

namespace Sys2Proof.Machine

/-! ### Changes that keep every tracker as it must be -/

/-- With legal records every tracker that is as it must be stays so, and no profile record changes. -/
structure State.TrackersKept (s t : State) : Prop where
  banks : t.store.banks = s.store.banks
  fine : s.ProfilesLegal → ∀ n, (s.trackers.get n).Fine → (t.trackers.get n).Fine

theorem State.ProfilesLegal.of_banks {s t : State} (h : s.ProfilesLegal) (hb : t.store.banks = s.store.banks) :
    t.ProfilesLegal := fun k n => by
  rw [Store.profile, hb]
  exact h k n

theorem State.TrackersKept.legal {s t : State} (h : s.TrackersKept t) (hp : s.ProfilesLegal) : t.ProfilesLegal :=
  hp.of_banks h.banks

theorem State.TrackersKept.refl (s : State) : s.TrackersKept s := ⟨rfl, fun _ _ h => h⟩

theorem State.TrackersKept.trans {s t u : State} (h : s.TrackersKept t) (h' : t.TrackersKept u) :
    s.TrackersKept u :=
  ⟨h'.banks.trans h.banks, fun hp n hn => h'.fine (h.legal hp) n (h.fine hp n hn)⟩

theorem State.TrackersKept.of_eq {s t : State} (hs : t.store.banks = s.store.banks)
    (ht : t.trackers = s.trackers) : s.TrackersKept t :=
  ⟨hs, fun _ n h => by rwa [ht]⟩

/-- A boundary of one tracker that leaves it as it must be. -/
theorem State.TrackersKept.of_boundary {s t : State} {n : StringNo} {k : Tracker} {made : List Publication}
    (h : s.BoundaryOf t n k made) (hk : s.ProfilesLegal → (s.trackers.get n).Fine → k.Fine) : s.TrackersKept t := by
  obtain ⟨⟨-, -, hstore, -⟩, ht, -⟩ := h
  refine ⟨by rw [hstore], fun hp m hm => ?_⟩
  rw [ht]
  split
  · next hmn => exact hk hp (hmn ▸ hm)
  · exact hm

theorem State.updTracker_trackersKept {s : State} {n : StringNo} {f : Tracker → Tracker}
    (hf : (s.trackers.get n).Fine → (f (s.trackers.get n)).Fine) : s.TrackersKept (s.updTracker n f) := by
  refine ⟨rfl, fun _ m hm => ?_⟩
  rw [State.updTracker_get]
  split
  · next hmn => exact hmn ▸ hf (hmn ▸ hm)
  · exact hm

theorem State.forStrings_trackersKept {f : StringNo → State → State} (h : ∀ n t, State.TrackersKept t (f n t))
    (s : State) : s.TrackersKept (s.forStrings f) :=
  State.forStrings_inv (P := s.TrackersKept) (fun n t ht => ht.trans (h n t)) (.refl s)

/-! ### The boundaries of a tracker (R78, R79, R81, R91) -/

theorem State.publish_trackersKept (s : State) (m : Maker) (u : Publication) : s.TrackersKept (s.publish m u) :=
  .of_eq rfl rfl

theorem State.publishTrack_trackersKept (s : State) (n : StringNo) (k : TrackKind) :
    s.TrackersKept (s.publishTrack n k) := .of_eq (by simp) (by simp)

theorem State.enterSilent_trackersKept (s : State) (n : StringNo) : s.TrackersKept (s.enterSilent n) :=
  .of_boundary (s.enterSilent_boundary n) fun hp h => hp.silentEntry_fine n h.ranged

theorem State.enterMuted_trackersKept (s : State) (n : StringNo) (c : EndCause) :
    s.TrackersKept (s.enterMuted n c) := by
  by_cases hm : (s.trackers.get n).state = .muted
  · rw [State.enterMuted_of_muted c hm]
    exact .refl s
  · exact .of_boundary (State.enterMuted_boundary c hm) fun _ h => h.mutedEntry

theorem State.leaveMuted_trackersKept (s : State) (n : StringNo) : s.TrackersKept (s.leaveMuted n) := by
  unfold State.leaveMuted
  split
  · exact s.enterSilent_trackersKept n
  · exact .refl s

theorem State.ghost_trackersKept (s : State) (n : StringNo) : s.TrackersKept (s.ghost n) :=
  (State.updTracker_trackersKept fun h => h.of_same rfl rfl rfl).trans (State.enterSilent_trackersKept _ n)

theorem State.adoptBank_trackersKept (s : State) (n : StringNo) : s.TrackersKept (s.adoptBank n) := by
  unfold State.adoptBank
  dsimp only
  split
  · exact .refl s
  · exact (State.updTracker_trackersKept fun h => h.of_same rfl rfl rfl).trans (State.publish_trackersKept _ _ _)

/-- A tracker that holds no note takes a working copy (R75, R76). -/
theorem State.takeCopy_trackersKept {s : State} {n : StringNo} (h : (s.trackers.get n).state = .silent) :
    s.TrackersKept (s.takeCopy n) := by
  refine ⟨rfl, fun hp m hm => ?_⟩
  rw [State.takeCopy, State.updTracker_get]
  split
  · next hmn =>
    subst hmn
    obtain ⟨hnote, hlevel, honset, hrelease, -, -⟩ := hm.staged
    have hnone : (s.trackers.get m).note = none := by
      rw [h] at hnote
      exact Option.isSome_eq_false_iff.mp hnote |> Option.isNone_iff_eq_none.mp
    exact hm.ranged.restage rfl rfl (by simp [h])
      ⟨hnote, hlevel, honset, hrelease, by simp [Tracker.noteOk, hnone], copyOf_ok (hp _ _) _ _⟩
  · exact hm

theorem State.requestBank_trackersKept (s : State) (k : Bank) (n : StringNo) :
    s.TrackersKept (s.requestBank k n) := by
  have hrequest (t : State) : t.TrackersKept (t.takeRequest n) := by
    unfold State.takeRequest
    dsimp only
    split
    · exact .refl t
    · next hb =>
      split
      · next hs =>
        refine (t.adoptBank_trackersKept n).trans (State.takeCopy_trackersKept ?_)
        simp [State.adoptBank, hb, hs]
      · exact t.adoptBank_trackersKept n
      · exact .refl t
  have hstored : s.TrackersKept { s with store := { s.store with requested := s.store.requested.set n k } } :=
    .of_eq rfl rfl
  exact hstored.trans (hrequest _)

/-! ### The events that a tracker's counts reach (R60, R83, R87, R88) -/

theorem State.takeStall_trackersKept (s : State) (n : StringNo) : s.TrackersKept (s.takeStall n) := by
  unfold State.takeStall
  split
  · exact State.updTracker_trackersKept fun h => h.clearedHistory
  · exact .refl s

theorem State.takeTimeout_trackersKept (s : State) (n : StringNo) : s.TrackersKept (s.takeTimeout n) := by
  unfold State.takeTimeout
  split
  · exact s.ghost_trackersKept n
  · exact .refl s

theorem State.takeRelease_trackersKept (s : State) (n : StringNo) : s.TrackersKept (s.takeRelease n) := by
  unfold State.takeRelease
  split
  · exact (s.publishTrack_trackersKept n _).trans (State.enterSilent_trackersKept _ n)
  · exact .refl s

theorem TrackState.ne_muted_of_sounds {st : TrackState} (h : st.sounds = true) : st ≠ .muted := by
  rintro rfl
  exact absurd h (by decide)

/-- The level timer runs on in SOUNDING and RELEASING, in which it ends (R88). -/
theorem State.takeLevel_trackersKept (s : State) (n : StringNo) : s.TrackersKept (s.takeLevel n) := by
  unfold State.takeLevel
  split
  · next hdue =>
    obtain ⟨hstate, -⟩ := (Tracker.levelDue_iff _).mp hdue
    have hsounds : (s.trackers.get n).state.sounds = true := by simpa [TrackState.sounds] using hstate
    have ht : (s.publishTrack n .level).trackers = s.trackers := by simp
    refine (s.publishTrack_trackersKept n _).trans (State.updTracker_trackersKept fun h => ?_)
    rw [ht] at h ⊢
    obtain ⟨hnote, -, honset, hrelease, hheld, hcopy⟩ := h.staged
    exact h.ranged.restage rfl rfl (TrackState.ne_muted_of_sounds hsounds) ⟨hnote, hsounds.symm, honset, hrelease, hheld, hcopy⟩
  · exact .refl s

theorem State.finishTrackers_trackersKept (s : State) : s.TrackersKept s.finishTrackers :=
  State.forStrings_trackersKept (fun n t => (((t.takeStall_trackersKept n).trans
    (State.takeTimeout_trackersKept _ n)).trans (State.takeRelease_trackersKept _ n)).trans
      (State.takeLevel_trackersKept _ n)) s

theorem State.clearHistories_trackersKept (s : State) : s.TrackersKept s.clearHistories :=
  State.forStrings_trackersKept (fun _ _ => State.updTracker_trackersKept fun h => h.of_same rfl rfl rfl) s

/-! ### The decisions of a sample (R80 to R88) -/

/-- The anchor of a pitch in the window of a working copy lies in 28..104, and a velocity in 1..127 (R69, R74). -/
theorem Tracker.noteOk_of_admits {t : Tracker} {v : Int} {peak sens : Nat} (hc : t.copy.ok = true)
    (hv : t.copy.Admits v) (hn : t.note = some ⟨anchorOf v, v, velocityOf peak sens⟩) : t.noteOk = true := by
  obtain ⟨hlow, hhigh, -⟩ := (WorkingCopy.ok_iff _).mp hc
  obtain ⟨hv1, hv2⟩ := hv
  have hanchor : 28 ≤ anchorOf v ∧ anchorOf v ≤ 104 := by
    unfold anchorOf
    omega
  have hvelocity : 1 ≤ velocityOf peak sens ∧ velocityOf peak sens ≤ 127 := clampNat_bounds (by decide) _
  simp only [Tracker.noteOk, hn, Option.all_some, Bool.and_eq_true, decide_eq_true_eq]
  exact ⟨⟨hanchor.1, hanchor.2, hvelocity⟩, hv1, hv2⟩

/-- The onset timer runs in ONSET alone (R82). -/
theorem Tracker.Staged.onsetTimer_of_sounds {t : Tracker} (h : t.Staged) (hs : t.state.sounds = true) :
    t.onsetTimer.isSome = false := by
  rw [h.onset, beq_eq_false_iff_ne]
  intro ho
  rw [ho] at hs
  exact absurd hs (by decide)

section
variable {s : State} {n : StringNo}

/-- A note starts in ONSET (R82). -/
theorem State.startNote_fine (h : (s.trackers.get n).Fine) (hst : (s.trackers.get n).state = .onset) {v : Int}
    (hv : (s.trackers.get n).copy.Admits v) : ((s.startNote n v).trackers.get n).Fine := by
  have hrelease := h.staged.release
  rw [hst] at hrelease
  simp only [State.startNote, State.publishTrack_keeps, State.updTracker_same]
  exact h.ranged.restage rfl rfl nofun
    ⟨rfl, rfl, rfl, hrelease, Tracker.noteOk_of_admits h.staged.copy hv rfl, h.staged.copy⟩

theorem State.onsetCounted_fine (h : (s.trackers.get n).Fine)
    (kept : Option (Nat × Nat)) : ((s.onsetCounted n kept).trackers.get n).Fine := by
  obtain ⟨hnote, hlevel, honset, hrelease, hheld, hcopy⟩ := h.staged
  rw [State.onsetCounted, State.updTracker_same]
  refine ⟨⟨hnote, hlevel, Option.isSome_map.trans honset, hrelease, hheld, hcopy⟩,
    h.ranged.of_registers rfl (fun hm => hm) ?_⟩
  cases kept with
  | none => exact h.ranged.onsetPeak
  | some k => exact Nat.min_le_left _ _

theorem State.sampleOnset_fine (hp : s.ProfilesLegal) (h : (s.trackers.get n).Fine)
    (hst : (s.trackers.get n).state = .onset) (kept : Option (Nat × Nat)) {accepted : Option Int}
    (ha : ∀ v, accepted = some v → (s.trackers.get n).copy.Admits v) :
    ((s.sampleOnset n kept accepted).trackers.get n).Fine := by
  have hcounted := State.onsetCounted_fine h kept
  rw [State.sampleOnset_eq]
  cases accepted with
  | some v =>
    have hstate : ((s.onsetCounted n kept).trackers.get n).state = (s.trackers.get n).state := by
      rw [State.onsetCounted, State.updTracker_same]
    have hcopy : ((s.onsetCounted n kept).trackers.get n).copy = (s.trackers.get n).copy := by
      rw [State.onsetCounted, State.updTracker_same]
    exact State.startNote_fine hcounted (hstate.trans hst) (hcopy ▸ ha v rfl)
  | none =>
    dsimp only
    split
    · exact (State.ghost_trackersKept (s.onsetCounted n kept) n).fine hp n hcounted
    · exact hcounted

/-- A re-pick is an onset with the period peak of the kept mark (R85). -/
theorem State.repick_fine (hp : s.ProfilesLegal) (h : (s.trackers.get n).Fine) {kept : Option (Nat × Nat)}
    (hk : ∀ k, kept = some k → k.1 ≤ 32767) {ended : Nat}
    (hr : (s.trackers.get n).repicked kept = some ended) : ((s.repick n ended).trackers.get n).Fine := by
  have hended : ended ≤ 32767 := by
    cases kept with
    | none => cases hr
    | some k =>
      simp only [Tracker.repicked] at hr
      split at hr
      · cases hr
        exact hk k rfl
      · cases hr
  have hkept := s.publishTrack_trackersKept n (.ended .repick)
  obtain ⟨-, hown, -⟩ := (s.publishTrack n (.ended .repick)).beginOnset_spec n ended
  rw [State.repick, hown]
  exact (hkept.legal hp).onsetEntry_fine n hended (hkept.fine hp n h).ranged

/-- An acceptance leaves its tracker in SOUNDING or RELEASING, with a note in the window (R84). -/
theorem State.acceptIf_fine (h : (s.trackers.get n).Fine) (hs : (s.trackers.get n).state.sounds = true)
    {accepted : Option Int} (ha : ∀ v, accepted = some v → (s.trackers.get n).copy.Admits v) :
    ((s.acceptIf n accepted).trackers.get n).Fine ∧ ((s.acceptIf n accepted).trackers.get n).state.sounds = true := by
  obtain ⟨hnote, hlevel, honset, hrelease, hheld, hcopy⟩ := h.staged
  have honset' := h.staged.onsetTimer_of_sounds hs
  cases accepted with
  | none => exact ⟨h, hs⟩
  | some v =>
    simp only [State.acceptIf, State.accept]
    split
    · exact ⟨h, hs⟩
    · next m hm =>
      split
      · simp only [State.publishTrack_keeps, State.updTracker_same]
        exact ⟨h.ranged.restage rfl rfl nofun ⟨rfl, hlevel.trans hs, honset', rfl,
          Tracker.noteOk_of_admits hcopy (ha v rfl) rfl, hcopy⟩, rfl⟩
      · simp only [State.publishTrack_keeps, State.updTracker_same]
        refine ⟨h.ranged.restage rfl rfl (TrackState.ne_muted_of_sounds hs) ⟨hs.symm, hlevel, honset, hrelease, ?_, hcopy⟩, hs⟩
        simp only [Tracker.noteOk, hm, Option.all_some, Bool.and_eq_true] at hheld ⊢
        exact ⟨hheld.1, decide_eq_true (ha v rfl)⟩

theorem State.advanceLevel_fine (h : (s.trackers.get n).Fine) : ((s.advanceLevel n).trackers.get n).Fine := by
  obtain ⟨hnote, hlevel, honset, hrelease, hheld, hcopy⟩ := h.staged
  rw [State.advanceLevel, State.updTracker_same]
  exact ⟨⟨hnote, Option.isSome_map.trans hlevel, honset, hrelease, hheld, hcopy⟩,
    h.ranged.of_registers rfl (fun hm => hm) h.ranged.onsetPeak⟩

theorem State.sampleSounding_fine (hp : s.ProfilesLegal) (h : (s.trackers.get n).Fine)
    (hs : (s.trackers.get n).state.sounds = true) {kept : Option (Nat × Nat)} {accepted : Option Int}
    (hk : ∀ k, kept = some k → k.1 ≤ 32767)
    (ha : ∀ v, accepted = some v → (s.trackers.get n).copy.Admits v) :
    ((s.sampleSounding n kept accepted).trackers.get n).Fine := by
  unfold State.sampleSounding
  split
  · next hr => exact State.repick_fine hp h hk hr
  · obtain ⟨haccepted, hsounds⟩ := State.acceptIf_fine h hs ha
    refine State.advanceLevel_fine ?_
    rw [State.updTracker_same]
    split
    · obtain ⟨hnote, hlevel, honset, -, hheld, hcopy⟩ := haccepted.staged
      rw [hsounds] at hnote hlevel
      exact haccepted.ranged.restage rfl rfl nofun
        ⟨hnote, hlevel, haccepted.staged.onsetTimer_of_sounds hsounds, rfl, hheld, hcopy⟩
    · exact haccepted

theorem State.sampleReleasing_fine (hp : s.ProfilesLegal) (h : (s.trackers.get n).Fine)
    (hs : (s.trackers.get n).state.sounds = true) {kept : Option (Nat × Nat)} {accepted : Option Int}
    (hk : ∀ k, kept = some k → k.1 ≤ 32767)
    (ha : ∀ v, accepted = some v → (s.trackers.get n).copy.Admits v) :
    ((s.sampleReleasing n kept accepted).trackers.get n).Fine := by
  unfold State.sampleReleasing
  split
  · next hr => exact State.repick_fine hp h hk hr
  · obtain ⟨haccepted, hsounds⟩ := State.acceptIf_fine h hs ha
    have hreturned : (((s.acceptIf n accepted).updTracker n fun t =>
        if t.state = .releasing then
          if t.copy.gOn ≤ t.e then { t with state := .sounding, releaseTimer := none }
          else { t with releaseTimer := t.releaseTimer.map (· - 1) }
        else t).trackers.get n).Fine := by
      rw [State.updTracker_same]
      obtain ⟨hnote, hlevel, honset, hrelease, hheld, hcopy⟩ := haccepted.staged
      split
      · split
        · rw [hsounds] at hnote hlevel
          exact haccepted.ranged.restage rfl rfl nofun
            ⟨hnote, hlevel, haccepted.staged.onsetTimer_of_sounds hsounds, rfl, hheld, hcopy⟩
        · exact haccepted.ranged.restage rfl rfl (TrackState.ne_muted_of_sounds hsounds)
            ⟨hnote, hlevel, honset, Option.isSome_map.trans hrelease, hheld, hcopy⟩
      · exact haccepted
    dsimp only
    split
    · exact hreturned
    · exact State.advanceLevel_fine hreturned

/-- What the state machine decides of a measured tracker leaves it as it must be. -/
theorem State.decideSample_fine (hp : s.ProfilesLegal) (h : (s.trackers.get n).Fine) {r : Measurement}
    (hr : s.trackers.get n = r.tracker) (hk : ∀ k, r.kept = some k → k.1 ≤ 32767)
    (ha : ∀ v, r.accepted = some v → r.tracker.copy.Admits v) :
    ((s.decideSample n r.tracker.state r).trackers.get n).Fine := by
  have hstate : (s.trackers.get n).state = r.tracker.state := by rw [hr]
  rw [← hr] at ha
  unfold State.decideSample
  split
  · exact h
  · split
    · obtain ⟨-, hown, -⟩ := s.beginOnset_spec n r.tracker.e
      rw [hown]
      exact hp.onsetEntry_fine n (hr ▸ h.ranged.envelope) h.ranged
    · exact h
  · next hst => exact State.sampleOnset_fine hp h (hstate.trans hst) _ ha
  · next hst => exact State.sampleSounding_fine hp h (by rw [hstate, hst]; rfl) hk ha
  · next hst => exact State.sampleReleasing_fine hp h (by rw [hstate, hst]; rfl) hk ha

/-- A sample leaves its tracker as it must be where no stall of the last one is due (R50, R60). -/
theorem State.trackerSample_fine (hp : s.ProfilesLegal) (h : (s.trackers.get n).Fine)
    (hstall : (s.trackers.get n).stallDue = false) {y : Int} (hy : -32768 ≤ y ∧ y ≤ 32767) :
    ((s.trackerSample n y).trackers.get n).Fine := by
  have hcleared := h.applyClears
  have hlt : (s.trackers.get n).applyClears.stall < 1250 := by
    have hlast : (s.trackers.get n).stall < 1250 := by
      simpa using mt (Tracker.stallDue_iff _).mpr (Bool.eq_false_iff.mp hstall)
    rw [clearingsAct]
    dsimp only
    split
    · exact Nat.zero_lt_succ _
    · exact hlast
  rw [State.trackerSample_eq]
  by_cases hm : (s.trackers.get n).applyClears.state = .muted
  · rw [hm, State.sampled, if_pos hm]
    simp only [State.decideSample, State.updTracker_same]
    obtain ⟨hmuted, he, hcur, hprev, honset, -, hlength, hinterval, hunmarked, hstalled⟩ := hcleared.ranged
    exact ⟨hcleared.staged.of_stage rfl,
      ⟨hmuted, he, hcur, hprev, honset, hy, hlength, hinterval, hunmarked, hstalled⟩⟩
  · have hmeasured := hcleared.measure hm hlt s.siu.rate s.store.global.offset s.siu.stamp hy
    rw [State.sampled, if_neg hm, ← Tracker.measure_state _ s.siu.rate s.store.global.offset s.siu.stamp y]
    obtain ⟨-, -, -, hcopy, -⟩ := (s.trackers.get n).applyClears.measure_keeps s.siu.rate s.store.global.offset
      s.siu.stamp y
    refine State.decideSample_fine (s := s.updTracker n fun _ => _) hp ?_ (State.updTracker_same s n _)
      (fun _ => Tracker.measure_kept_le) fun v hv => ?_
    · rwa [State.updTracker_same]
    · rw [hcopy]
      exact Tracker.measure_admits hv

end

end Sys2Proof.Machine
end

section
/-!
SUPPORT. What the link monitor, the end of a set and a global record keep of the invariant of the trackers, and one
conversion set (R22, R27, R28, R50, R77, R78, R79, R94).
-/

namespace Sys2Proof.Machine

/-! ### The link monitor (R17, R22, R24, R26, R27) -/

theorem State.enterLink_trackersKept (s : State) (st : LinkState) : s.TrackersKept (s.enterLink st) := by
  by_cases ha : s.link.state = .active
  · refine ⟨by simp, fun _ n h => ?_⟩
    have ht : (s.enterLink st).trackers = s.leaveActive.trackers := by
      rw [State.enterLink_of_active st ha, State.raiseBoth_trackers]
    rw [ht, State.leaveActive_tracker]
    exact h.muted
  · rw [State.enterLink_of_not_active st ha]
    exact .of_eq (by simp) (by simp)

theorem State.enterLinkNoticed_trackersKept (s : State) (st : LinkState) :
    s.TrackersKept (s.enterLinkNoticed st) := (s.enterLink_trackersKept st).trans (.of_eq rfl rfl)

theorem State.presenceTrue_trackersKept (s : State) : s.TrackersKept s.presenceTrue := by
  have hdebounced : s.TrackersKept (s.debounce true) := .of_eq rfl rfl
  unfold State.presenceTrue
  dsimp only
  split
  · exact hdebounced.trans (State.enterLink_trackersKept _ _)
  · exact hdebounced

theorem State.presenceFalse_trackersKept (s : State) : s.TrackersKept s.presenceFalse := by
  have hdebounced : s.TrackersKept (s.debounce false) := .of_eq rfl rfl
  have habsent := hdebounced.trans (State.enterLinkNoticed_trackersKept _ .absent)
  unfold State.presenceFalse
  dsimp only
  cases s.link.state with
  | disabled | absent => exact hdebounced
  | powering | settling | overload => exact habsent
  | active =>
    dsimp only
    split
    · exact habsent
    · exact habsent.trans (.of_eq rfl rfl)

theorem State.holdEnd_trackersKept (s : State) (level : Bool) : s.TrackersKept (s.holdEnd level) := by
  unfold State.holdEnd
  split
  · split
    · exact s.presenceTrue_trackersKept
    · exact s.presenceFalse_trackersKept
  · exact .refl s

theorem State.powerUpEnd_trackersKept (s : State) : s.TrackersKept s.powerUpEnd := by
  unfold State.powerUpEnd
  split
  · exact s.enterLink_trackersKept .settling
  · exact .refl s

theorem State.overCurrent_trackersKept (s : State) : s.TrackersKept s.overCurrent := by
  unfold State.overCurrent
  dsimp only
  split
  · exact (s.enterLink_trackersKept .overload).trans (.of_eq rfl rfl)
  · exact .refl s

theorem State.dropChannel_trackersKept (s : State) (i : Sin) : s.TrackersKept (s.dropChannel i) := by
  cases hs : s.store.global.stringOf i with
  | none =>
    rw [State.dropChannel_of_none hs]
    exact .of_eq rfl rfl
  | some n =>
    have hnoticed : s.TrackersKept (((s.flagDropped i).linkNotice .channelDrop i.number n.number).raiseBoth
      .fault) := .of_eq rfl rfl
    have hmuted : s.TrackersKept (s.muteDropped i n) := hnoticed.trans (State.enterMuted_trackersKept _ n .mute)
    rw [State.dropChannel_of_some hs]
    exact hmuted.trans (.of_eq (by simp) (by simp))

theorem State.takeStuckLong_trackersKept (s : State) (i : Sin) : s.TrackersKept (s.takeStuckLong i) := by
  have hreport : s.TrackersKept (s.reportLong i) := .of_eq rfl rfl
  by_cases hl : (s.siu.inputs.get i).longDue = true
  · rw [State.takeStuckLong_of_due hl]
    split
    · exact hreport.trans (State.dropChannel_trackersKept _ i)
    · exact hreport
  · rw [State.takeStuckLong_of_not_due (by simpa using hl)]
    exact .refl s

theorem State.takeEpisode_trackersKept (s : State) (i : Sin) : s.TrackersKept (s.takeEpisode i) :=
  .of_eq (by simp) (by simp)

theorem State.finishInputs_trackersKept (s : State) : s.TrackersKept s.finishInputs := by
  have hfold (l : List Sin) : ∀ t : State, s.TrackersKept t →
      s.TrackersKept (l.foldl (fun t i => t.finishInput i) t) := by
    induction l with
    | nil => exact fun t ht => ht
    | cons i l ih =>
      exact fun t ht => ih _ ((ht.trans (t.takeEpisode_trackersKept i)).trans (State.takeStuckLong_trackersKept _ i))
  exact hfold Sin.all s (.refl s)

theorem State.takeWindowEnd_trackersKept (s : State) : s.TrackersKept s.takeWindowEnd := by
  have hrelease (t : State) : t.TrackersKept t.releaseUsable :=
    State.forStrings_trackersKept (fun n u => by
      split
      · exact u.leaveMuted_trackersKept n
      · exact .refl u) t
  have hfloors : s.TrackersKept s.setFloors := .of_eq rfl rfl
  unfold State.takeWindowEnd
  split
  · exact ((hfloors.trans (State.enterLink_trackersKept _ .active)).trans (hrelease _)).trans
      (.of_eq (by simp) (by simp))
  · exact .refl s

/-! ### The end of a set and a set (R50, R77, R94) -/

theorem State.finishAux_trackersKept (s : State) (x : AuxNo) : s.TrackersKept (s.finishAux x) :=
  .of_eq (by simp) (by simp)

theorem State.finishSet_trackersKept (s : State) : s.TrackersKept s.finishSet := by
  have hinputs := s.finishTrackers_trackersKept.trans (State.finishInputs_trackersKept _)
  have haux := (hinputs.trans (State.finishAux_trackersKept _ .sin6)).trans (State.finishAux_trackersKept _ .sin7)
  have hends (t : State) : t.TrackersKept t.captureEnd.endHandling := .of_eq (by simp) (by simp)
  exact (haux.trans (State.takeWindowEnd_trackersKept _)).trans (hends _)

theorem State.monitorChanges_trackersKept (s : State) (windowFirst : Bool) :
    s.TrackersKept (s.monitorChanges windowFirst) := by
  unfold State.monitorChanges
  split
  · exact (s.finishTrackers_trackersKept.trans (State.takeWindowEnd_trackersKept _)).trans
      (State.finishInputs_trackersKept _)
  · exact (s.finishTrackers_trackersKept.trans (State.finishInputs_trackersKept _)).trans
      (State.takeWindowEnd_trackersKept _)

theorem State.monitorChanges_noneDue (s : State) (windowFirst : Bool) : (s.monitorChanges windowFirst).NoneDue := by
  unfold State.monitorChanges
  split
  · exact s.finishTrackers_noneDue.takeWindowEnd.finishInputs
  · exact s.finishTrackers_noneDue.finishInputs.takeWindowEnd

/-- The trackers are as they must be, over legal records. -/
structure State.TrackersSafe (s : State) : Prop where
  legal : s.ProfilesLegal
  fine : ∀ n, (s.trackers.get n).Fine

theorem State.trackersOk_iff (s : State) : s.trackersOk = true ↔ ∀ n, (s.trackers.get n).Fine := by
  simp only [State.trackersOk, List.all_eq_true, Tracker.ok_iff]
  exact ⟨fun h n => h n n.mem_all, fun h n _ => h n⟩

theorem State.TrackersSafe.kept {s t : State} (h : s.TrackersSafe) (ht : s.TrackersKept t) : t.TrackersSafe :=
  ⟨ht.legal h.legal, fun n => ht.fine h.legal n (h.fine n)⟩

theorem State.TrackersSafe.trackersOk {s : State} (h : s.TrackersSafe) : s.trackersOk = true :=
  s.trackersOk_iff.mpr h.fine

/-- A conditioned sample is saturated to a 16-bit number (R40). -/
theorem conditionedSample_bounds (v : Option Int) :
    -32768 ≤ conditionedSample v ∧ conditionedSample v ≤ 32767 := by
  cases v with
  | none => exact ⟨by decide, by decide⟩
  | some x =>
    simp only [conditionedSample, saturateY, clampInt]
    omega

/-- Trackers with no stall due sample in turn (R50, R60, R77). -/
theorem State.TrackersSafe.sampleTrackers {s : State} (h : s.TrackersSafe) (turn : StringNo → Bool)
    (v : Six (Option Int)) (hdue : ∀ n, turn n = true → (s.trackers.get n).stallDue = false) :
    (s.sampleTrackers turn v).TrackersSafe := by
  refine ⟨h.legal.of_banks (by simp), fun n => ?_⟩
  by_cases hn : turn n = true
  · rw [State.sampleTrackers_own hn]
    exact State.trackerSample_fine h.legal (h.fine n) (hdue n hn) (conditionedSample_bounds _)
  · rw [State.sampleTrackers_waits (by simpa using hn)]
    exact h.fine n

theorem State.NoneDue.stallDue {s : State} (h : s.NoneDue) (n : StringNo) :
    (s.trackers.get n).stallDue = false :=
  ((Tracker.due_eq_false_iff _).mp (h n)).1

theorem State.met_trackersKept (s : State) : s.TrackersKept s.met :=
  s.finishSet_trackersKept.trans (.of_eq (by simp [State.met]) (by simp [State.met]))

theorem State.met_noneDue (s : State) : s.met.NoneDue := by
  obtain ⟨-, hnone, -⟩ := s.finishSet.settled_iff.mp s.finishSet_settled
  exact State.NoneDue.of_eq (s := s.finishSet) hnone (by simp [State.met])

theorem State.setTapped_trackersKept (s : State) (pins : SetInputs) (order : SetOrder) :
    s.TrackersKept (s.setTapped pins order) :=
  ⟨by rw [(s.setTapped_sameFor pins order .s1).store],
    fun _ n h => by rwa [(s.setTapped_sameFor pins order n).tracker]⟩

theorem State.TrackersSafe.conversionSet {s : State} (h : s.TrackersSafe) (pins : SetInputs) (order : SetOrder) :
    (s.conversionSet pins order).TrackersSafe := by
  have hidles (t : State) : t.TrackersKept t.countIdles := .of_eq rfl rfl
  have hsampled : (s.met.setSampled pins order).TrackersSafe :=
    ((h.kept s.met_trackersKept).kept (State.setTapped_trackersKept _ pins order)).sampleTrackers _ _ fun n _ => by
      rw [(s.met.setTapped_sameFor pins order n).tracker]
      exact s.met_noneDue.stallDue n
  by_cases ho : order.monitorFirst = 0
  · rw [State.conversionSet_sampled ho]
    exact hsampled.kept (hidles _)
  · rw [State.conversionSet_masked ho]
    exact ((hsampled.kept (State.monitorChanges_trackersKept _ _)).sampleTrackers _ _ fun n _ =>
      (State.monitorChanges_noneDue _ _).stallDue n).kept (hidles _)

/-! ### A global record (R28, R78, R79, R96) -/

theorem State.remapTracker_trackersKept (s : State) (old new : Global) (n : StringNo) :
    s.TrackersKept (s.remapTracker old new n) := by
  refine .of_boundary (s.remapTracker_boundary old new n) fun hp h => ?_
  simp only [State.remapEntry]
  split
  · split
    · exact hp.silentEntry_fine n h.ranged
    · exact h
  · split
    · exact h
    · exact h.mutedEntry

theorem State.reevaluate_trackersKept (s : State) (old new : Global) : s.TrackersKept (s.reevaluate old new) := by
  have hfloors : s.TrackersKept (s.roleFloors old new) := .of_eq rfl rfl
  have hremapped := hfloors.trans (State.forStrings_trackersKept
    (f := fun n t => t.remapTracker old new n) (fun n t => t.remapTracker_trackersKept old new n) _)
  have hwidth (t : State) (w : Nat) : t.TrackersKept (t.setWidth.noticeWidth w) := .of_eq (by simp) (by simp)
  exact hremapped.trans (hwidth _ _)

theorem State.commitGlobal_trackersKept (s : State) (g : Global) : s.TrackersKept (s.commitGlobal g) := by
  have hstored : s.TrackersKept (s.storedGlobal g) := .of_eq rfl rfl
  have hlink : (s.storedGlobal g).TrackersKept ((s.storedGlobal g).linkCommit s.store.global g) := by
    by_cases ha : (s.storedGlobal g).link.state = .active
    · rw [State.linkCommit_of_active _ _ ha]
      split
      · exact .refl _
      · exact State.reevaluate_trackersKept _ _ _
    · rw [State.linkCommit_of_not_active _ _ ha]
      exact .of_eq rfl rfl
  rw [State.commitGlobal_eq]
  exact (hstored.trans hlink).trans (.of_eq (by simp) (by simp))

end Sys2Proof.Machine
end

section
/-!
PROOF. Every step keeps every tracker's note, timers, gates and ranges: the owners of the commands, the rows, and a
step on an empty queue (R51, R58, R59, R60, R74, R76, R78).
-/

namespace Sys2Proof.Machine

/-! ### The owners of the commands -/

/-- The commands of the Stream Units leave trackers and records alone. -/
theorem State.TrackersKept.of_parts {s t : State} (h : t.linkParts = s.linkParts) : s.TrackersKept t := by
  simp only [State.linkParts, Prod.mk.injEq] at h
  obtain ⟨-, ht, hs, -⟩ := h
  exact .of_eq (by rw [hs]) ht

theorem State.updPort_trackersKept (s : State) (p : Port) (f : PortIf → PortIf) : s.TrackersKept (s.updPort p f) :=
  .of_eq rfl rfl

theorem State.loseWordClock_trackersKept (s : State) : s.TrackersKept s.loseWordClock :=
  (State.TrackersKept.trans (.of_eq rfl rfl) (State.clearHistories_trackersKept _)).trans (.of_eq rfl rfl)

theorem State.doSetClock_trackersKept (s : State) (c : Byte) : s.TrackersKept (s.doSetClock c).1 := by
  unfold State.doSetClock
  split
  · exact .refl s
  · split
    · exact .refl s
    · unfold State.chooseClock
      split
      · exact .of_eq rfl rfl
      · refine State.TrackersKept.trans ?_ (State.clearHistories_trackersKept _)
        exact .of_eq rfl rfl

theorem State.doReadProfile_fst (s : State) (b n : Byte) : (s.doReadProfile b n).1 = s := by
  unfold State.doReadProfile
  split <;> rfl

/-- A commit of a profile record reaches no tracker before its next boundary (R75, R107). -/
theorem State.doEditProfile_trackers (s : State) (p : Port) (b n : Byte) (base : Half) (m : ProfileImage) :
    (s.doEditProfile p b n base m).1.trackers = s.trackers := by
  unfold State.doEditProfile
  split
  · dsimp only
    split
    · rfl
    split
    · rfl
    split
    · rfl
    · simp
  · rfl

theorem State.doEditGlobal_trackersKept (s : State) (p : Port) (base : Half) (m : GlobalImage) :
    s.TrackersKept (s.doEditGlobal p base m).1 := by
  unfold State.doEditGlobal
  dsimp only
  split
  · exact .refl s
  · split
    · split
      · exact .refl s
      · exact (s.commitGlobal_trackersKept _).trans (.of_eq rfl rfl)
    · exact .refl s

theorem State.doSelectBank_trackersKept (s : State) (m b : Byte) : s.TrackersKept (s.doSelectBank m b).1 := by
  unfold State.doSelectBank
  split
  · exact .refl s
  split
  · exact .refl s
  · dsimp only
    exact State.forStrings_trackersKept (fun n t => by
      split
      · exact t.requestBank_trackersKept _ n
      · exact .refl t) s

theorem State.doRetrain_trackersKept (s : State) : s.TrackersKept s.doRetrain.1 := by
  unfold State.doRetrain
  split
  · exact s.enterLink_trackersKept .settling
  · exact .of_eq rfl rfl
  · exact s.enterLink_trackersKept .powering
  all_goals exact .refl s

theorem State.doDisable_trackersKept (s : State) : s.TrackersKept s.doDisable.1 := by
  unfold State.doDisable
  split
  · exact .refl s
  · exact s.enterLinkNoticed_trackersKept .disabled

theorem State.doEnable_trackersKept (s : State) : s.TrackersKept s.doEnable.1 := by
  unfold State.doEnable
  split
  · split
    · exact s.enterLink_trackersKept .powering
    · exact s.enterLinkNoticed_trackersKept .absent
  · exact .refl s

theorem State.doExpectRemoval_trackersKept (s : State) : s.TrackersKept s.doExpectRemoval.1 := by
  unfold State.doExpectRemoval
  split
  · exact .of_eq rfl rfl
  · exact .refl s

theorem State.doLearnStart_trackersKept (s : State) (p : Port) (n b : Byte) (base : Half) :
    s.TrackersKept (s.doLearnStart p n b base).1 := by
  unfold State.doLearnStart
  split
  · split
    · exact .refl s
    · split
      · exact .refl s
      split
      · exact .refl s
      split
      · exact .refl s
      · exact .of_eq rfl rfl
  · exact .refl s

theorem State.doLearnAbort_trackersKept (s : State) (p : Port) : s.TrackersKept (s.doLearnAbort p).1 := by
  unfold State.doLearnAbort
  split
  · exact .of_eq rfl rfl
  · exact .refl s

/-! ### A millisecond (R10, R18, R20, R122) -/

theorem State.watchEnd_trackersKept (s : State) : s.TrackersKept s.watchEnd := by
  unfold State.watchEnd
  split
  · exact s.loseWordClock_trackersKept
  · exact .refl s

theorem State.tickWatch_trackersKept (s : State) : s.TrackersKept s.tickWatch := by
  unfold State.tickWatch
  split
  · exact s.loseWordClock_trackersKept
  · exact .of_eq rfl rfl

theorem State.tickDelay_trackersKept (s : State) : s.TrackersKept s.tickDelay := by
  unfold State.tickDelay
  split
  · exact .refl s
  · split
    · exact s.powerUpEnd_trackersKept
    · exact .of_eq rfl rfl

theorem State.tickArm_trackersKept (s : State) : s.TrackersKept s.tickArm :=
  .of_eq (by simp) (by simp)

theorem State.tickHold_trackersKept (s : State) : s.TrackersKept s.tickHold := by
  have hheld (k : Nat) : s.TrackersKept { s with link := { s.link with holdMs := k } } := .of_eq rfl rfl
  unfold State.tickHold
  dsimp only
  split
  · exact (hheld _).trans (State.holdEnd_trackersKept _ _)
  · exact hheld _

theorem State.tick_trackersKept (s : State) : s.TrackersKept s.tick :=
  (((s.finishSet_trackersKept.trans (State.tickWatch_trackersKept _)).trans (State.tickDelay_trackersKept _)).trans
    (State.tickArm_trackersKept _)).trans (State.tickHold_trackersKept _)

/-! ### The rows -/

/-- The row answers states in which the trackers are as they must be. -/
def AnswersTrackersOk (r : Result) : Prop := ∀ t, r = .next t → t.trackersOk = true

theorem answersTrackersOk_next {t : State} (h : t.trackersOk = true) : AnswersTrackersOk (.next t) := fun _ ht =>
  Host.Outcome.next.inj ht ▸ h

theorem answersTrackersOk_if {s t : State} (c : Prop) [Decidable c] (hs : s.trackersOk = true)
    (ht : t.trackersOk = true) : AnswersTrackersOk (if c then .next t else .next s) := by
  split
  · exact answersTrackersOk_next ht
  · exact answersTrackersOk_next hs

theorem State.trackersOk_congr {s t : State} (h : t.trackers = s.trackers) : t.trackersOk = s.trackersOk := by
  rw [State.trackersOk, State.trackersOk, h]

/-- A frame meets a finished set, and what its owner makes of it is answered. -/
theorem State.TrackersSafe.frame {s : State} (h : s.TrackersSafe) (p : Port) (n : Nat)
    {owner : State → State × Response} (howner : ∀ t : State, t.TrackersSafe → (owner t).1.trackersOk = true) :
    AnswersTrackersOk (.next (s.frame p n owner)) := by
  refine answersTrackersOk_next ?_
  unfold State.frame
  dsimp only
  split
  · split
    · exact h.trackersOk
    · exact howner _ (h.kept s.finishSet_trackersKept)
  · exact h.trackersOk

/-- A frame whose owner keeps the trackers. -/
theorem State.TrackersSafe.frame_kept {s : State} (h : s.TrackersSafe) (p : Port) (n : Nat)
    {owner : State → State × Response} (howner : ∀ t : State, t.TrackersKept (owner t).1) :
    AnswersTrackersOk (.next (s.frame p n owner)) :=
  h.frame p n fun t ht => (ht.kept (howner t)).trackersOk

theorem Tracker.reset_fine (n : StringNo) : (Tracker.reset n).Fine := by
  rw [← Tracker.ok_iff]
  cases n <;> decide

theorem State.powerOn_trackersOk (s : State) : s.powerOn.trackersOk = true :=
  s.powerOn.trackersOk_iff.mpr fun n => by
    rw [State.powerOn_trackers]
    exact Tracker.reset_fine n

theorem State.ownAnswer_trackersKept (s : State) (p : Port) (n : Nat) (st : Status) :
    s.TrackersKept (s.ownAnswer p n st) := by
  unfold State.ownAnswer
  dsimp only
  split
  · exact .of_eq rfl rfl
  · exact .refl s

theorem State.TrackersSafe.execPartReset {s : State} (h : s.TrackersSafe) (p : Port) :
    AnswersTrackersOk (execPartReset p s) := by
  unfold Machine.execPartReset
  dsimp only
  split
  · split
    · exact answersTrackersOk_next h.trackersOk
    · exact answersTrackersOk_next s.powerOn_trackersOk
  · exact answersTrackersOk_next h.trackersOk

theorem State.TrackersSafe.execUnknownCommand {s : State} (h : s.TrackersSafe) (p : Port) (code : Byte)
    (args : List Byte) : AnswersTrackersOk (execUnknownCommand p code args s) := by
  unfold Machine.execUnknownCommand
  split
  · exact h.frame_kept p _ .refl
  · exact answersTrackersOk_next (h.kept (s.ownAnswer_trackersKept p _ _)).trackersOk

/-- Every row leaves the trackers as they must be. -/
theorem exec_trackersOk (c : Instr) {s : State} (h : s.TrackersSafe) : AnswersTrackersOk (exec c s) := by
  have hkept {t : State} (ht : s.TrackersKept t) : AnswersTrackersOk (.next t) :=
    answersTrackersOk_next (h.kept ht).trackersOk
  have hset {t : State} (ht : s.finishSet.TrackersKept t) : AnswersTrackersOk (.next t) :=
    hkept (s.finishSet_trackersKept.trans ht)
  have hif (c : Prop) [Decidable c] {t : State} (ht : s.TrackersKept t) :
      AnswersTrackersOk (if c then .next t else .next s) :=
    answersTrackersOk_if c h.trackersOk (h.kept ht).trackersOk
  have hparts (p : Port) (n : Nat) {owner : State → State × Response}
      (ho : ∀ t : State, (owner t).1.linkParts = t.linkParts) : AnswersTrackersOk (.next (s.frame p n owner)) :=
    h.frame_kept p n fun t => .of_parts (ho t)
  have hlink (t : State) (k : Link) : t.TrackersKept { t with link := k } := .of_eq rfl rfl
  have hbefore (x : AuxNo) : s.TrackersKept (s.auxBefore x) := by
    cases x with
    | sin6 => exact .refl s
    | sin7 => exact s.finishAux_trackersKept .sin6
  cases c with
  | powerOn => exact answersTrackersOk_next s.powerOn_trackersOk
  | partReset p => exact h.execPartReset p
  | conversionSet src pins order =>
    exact answersTrackersOk_if _ h.trackersOk (h.conversionSet pins order).trackersOk
  | stuckEpisodeBegin i => exact hkept (s.takeEpisode_trackersKept i)
  | stuckLong i => exact hif _ (s.finishTrackers_trackersKept.trans (State.takeStuckLong_trackersKept _ i))
  | auxEvaluation x => exact hif _ ((hbefore x).trans (.of_eq (by simp) (by simp)))
  | digitalAuxPublish x => exact hif _ ((hbefore x).trans (.of_eq (by simp) (by simp)))
  | settleWindowEnd => exact hif _ (s.finishTrackers_trackersKept.trans (State.takeWindowEnd_trackersKept _))
  | stall n => exact hkept (s.takeStall_trackersKept n)
  | onsetTimeout n => exact hkept (s.takeTimeout_trackersKept n)
  | releaseTimerEnd n => exact hkept (s.takeRelease_trackersKept n)
  | levelTimer n => exact hkept (s.takeLevel_trackersKept n)
  | wordClockLoss => exact hset (State.watchEnd_trackersKept _)
  | presChange level => exact hset (hlink _ _)
  | presenceBecomesTrue => exact hset (State.holdEnd_trackersKept _ true)
  | presenceBecomesFalse => exact hset (State.holdEnd_trackersKept _ false)
  | powerUpDelayEnd => exact hset (State.powerUpEnd_trackersKept _)
  | overCurrent => exact hset (State.overCurrent_trackersKept _)
  | armTimerExpiry => exact hset (.of_eq (by simp) (by simp))
  | captureEnd => exact hkept (.of_eq (by simp) (by simp))
  | learnCommit =>
    refine answersTrackersOk_next ?_
    rw [State.trackersOk_congr (s := s.finishSet) (by simp)]
    exact (h.kept s.finishSet_trackersKept).trackersOk
  | publicationTaken p m => exact hkept (.of_eq (by simp) (by simp))
  | idleTimerExpiry p => exact hkept (.of_eq (by simp) (by simp))
  | csFall p | csRise p | responseReady p => exact hkept (s.updPort_trackersKept p _)
  | unknownCommand p code args => exact h.execUnknownCommand p code args
  | malformedFrame p code args => exact hkept (s.ownAnswer_trackersKept p _ _)
  | busyFrame p code args => exact hif _ (s.ownAnswer_trackersKept p _ _)
  | identify p | readStatus p | readFloors p | learnStatus p | readStream p => exact h.frame_kept p _ .refl
  | readContext p n | readCounters p n m => exact h.frame_kept p _ .refl
  | setClock p choice => exact h.frame_kept p _ fun t => t.doSetClock_trackersKept _
  | clearFlags p word | setAttnMask p word => exact h.frame_kept p _ fun t => .of_eq rfl rfl
  | readProfile p b n =>
    exact h.frame_kept p _ fun t => .of_eq (by rw [t.doReadProfile_fst]) (by rw [t.doReadProfile_fst])
  | editProfile p b n base m =>
    exact h.frame p _ fun t ht => (State.trackersOk_congr (t.doEditProfile_trackers _ _ _ _ _)).trans ht.trackersOk
  | readGlobal p => exact h.frame_kept p _ .refl
  | editGlobal p base m => exact h.frame_kept p _ fun t => t.doEditGlobal_trackersKept _ _ _
  | selectBank p m b => exact h.frame_kept p _ fun t => t.doSelectBank_trackersKept _ _
  | retrain p => exact h.frame_kept p _ State.doRetrain_trackersKept
  | disable p => exact h.frame_kept p _ State.doDisable_trackersKept
  | enable p => exact h.frame_kept p _ State.doEnable_trackersKept
  | expectRemoval p => exact h.frame_kept p _ State.doExpectRemoval_trackersKept
  | learnStart p n b base => exact h.frame_kept p _ fun t => t.doLearnStart_trackersKept _ _ _ _
  | learnAbort p => exact h.frame_kept p _ fun t => t.doLearnAbort_trackersKept _
  | setStream p m => exact hparts p _ fun t => t.doSetStream_linkParts _ _
  | setFilter p l => exact hparts p _ fun t => t.doSetFilter_linkParts _ _
  | readFilter p => exact hparts p _ fun _ => rfl
  | streamStart p => exact hparts p _ fun t => t.doStart_linkParts _
  | streamStop p => exact hparts p _ fun t => t.doStop_linkParts _
  | streamHold p => exact hparts p _ fun t => t.doHold_linkParts _
  | streamResume p => exact hparts p _ fun t => t.doResume_linkParts _
  | streamResync p => exact hparts p _ fun t => t.doResync_linkParts _
  | streamReset p => exact hparts p _ fun _ => rfl
  | fetch p => exact hparts p _ fun t => t.doFetch_linkParts _
  | release p q => exact hparts p _ fun t => t.doRelease_linkParts _ _
  | readLatch p => exact hparts p _ fun t => t.doReadLatch_linkParts _
  | postCue p d code => exact hparts p _ fun t => t.doPostCue_linkParts _ _ _
  | readPortCounters p | clearPortCounters p => exact hparts p _ fun _ => rfl

/-! ### The step -/

theorem State.TrackersSafe.clockByte {s : State} (h : s.TrackersSafe) (p : Port) (b : Byte) :
    AnswersTrackersOk (s.clockByte p b) := by
  unfold State.clockByte
  dsimp only
  split
  · exact answersTrackersOk_next h.trackersOk
  split
  · split
    · exact exec_trackersOk _ (h.kept (s.updPort_trackersKept p _))
    · exact answersTrackersOk_next h.trackersOk
  · exact answersTrackersOk_next h.trackersOk

theorem State.TrackersSafe.idle {s : State} (h : s.TrackersSafe) : AnswersTrackersOk s.idle := by
  unfold State.idle
  split
  · exact State.TrackersSafe.clockByte (h.kept (s.updPort_trackersKept .a _)) .a _
  · exact State.TrackersSafe.clockByte (h.kept (s.updPort_trackersKept .b _)) .b _
  · exact answersTrackersOk_next (h.kept s.tick_trackersKept).trackersOk

/-- Settles O58: row by row, and a byte or a millisecond where no row waits. -/
theorem stepsKeepTrackers : Obligations.StepsKeepTrackers := by
  intro s t hrec hok ht
  have hsafe : s.TrackersSafe := ⟨(s.recordsOk_iff.mp hrec).profile, s.trackersOk_iff.mp hok⟩
  unfold step at ht
  split at ht
  · exact hsafe.idle t ht
  · next c rest _ =>
    exact exec_trackersOk (s := { s with pending := rest }) c (hsafe.kept (.of_eq rfl rfl)) t ht

end Sys2Proof.Machine
end

section
/-!
PROOF. The working copy and its gates, and a sample in ONSET, in SOUNDING and in RELEASING (R75, R76, R82, R83, R84,
R85, R87, R88, R97, R101).
-/

namespace Sys2Proof.Machine

/-! ### The working copy (R75, R76, R101) -/

/-- A field of the override part where it is held, else the grade's, case by case (R75, R101). -/
theorem supplied_eq (r : Profile) (f : Override → Option Nat) (d : Nat) : supplied r f d =
    match r.override with
    | none => d
    | some o => (f o).getD d := by
  unfold supplied
  cases r.override with
  | none => rfl
  | some o => rfl

/-- Settles O24: the bounds of G_off rest on a G_on of 64 or more and a legal gate_off. -/
theorem workingCopyAndGates : Obligations.WorkingCopyAndGates := by
  intro r g floorUsed c held
  have hgates (h : r.legal = true) : 64 ≤ c.gOn ∧ 8 ≤ c.gOff ∧ c.gOff < c.gOn := by
    obtain ⟨-, -, hgates⟩ := (WorkingCopy.ok_iff _).mp (copyOf_ok h g floorUsed)
    exact hgates
  refine ⟨rfl, rfl, rfl, rfl, rfl, rfl, rfl, rfl, rfl, rfl, rfl, hgates, ?_, ?_, ?_⟩
  · exact (supplied_eq r Override.tol _).trans (by cases g <;> rfl)
  · exact (supplied_eq r Override.onsetTimeout _).trans (by cases g <;> rfl)
  · exact (supplied_eq r Override.jump _).trans (by cases g <;> rfl)

/-! ### The decisions of a sample as boundaries of their tracker -/

section
variable (s : State) (n : StringNo)

theorem State.updTracker_boundary (f : Tracker → Tracker) :
    s.BoundaryOf (s.updTracker n f) n (f (s.trackers.get n)) [] := by
  refine ⟨⟨rfl, rfl, rfl, rfl⟩, fun m => ?_, fun p => by simp [State.waitsAfter]⟩
  rw [State.updTracker_get]
  split
  · next h => rw [h]
  · rfl

theorem State.beginOnset_stream (peak : Nat) (p : Port) : (s.beginOnset n peak).streams.get p =
    { s.streams.get p with waiting := s.waitsAfter p n (s.adoption n) } := by
  simp [State.beginOnset, State.adoptBank_stream, State.waitsAfter, State.adoption]

theorem State.beginOnset_boundary (peak : Nat) :
    s.BoundaryOf (s.beginOnset n peak) n (s.onsetEntry n peak (s.trackers.get n)) (s.adoption n) := by
  obtain ⟨hother, hown, -⟩ := s.beginOnset_spec n peak
  refine ⟨by simp [State.SameRules], fun m => ?_, s.beginOnset_stream n peak⟩
  split
  · next h => rw [h, hown]
  · next h => exact hother m h

theorem State.ghost_boundary : s.BoundaryOf (s.ghost n) n
    (s.silentEntry n { s.trackers.get n with ghost := (s.trackers.get n).ghost + 1 }) (s.adoption n) := by
  have h := (s.updTracker_boundary n fun t => { t with ghost := t.ghost + 1 }).trans
    (State.enterSilent_boundary _ n)
  have hadoption : (s.updTracker n fun t => { t with ghost := t.ghost + 1 }).adoption n = s.adoption n := by
    simp [State.adoption]
  rw [State.updTracker_same, hadoption] at h
  exact h

end

/-- A change of a tracker that leaves it a note, and the publication that carries the note (R89). -/
theorem State.updTracker_publishTrack_boundary (s : State) (n : StringNo) {f : Tracker → Tracker} {m : HeldNote}
    (hm : (f (s.trackers.get n)).note = some m) (c : TrackKind) :
    s.BoundaryOf ((s.updTracker n f).publishTrack n c) n (f (s.trackers.get n))
      [.track n c m (levelOf (f (s.trackers.get n)).e)] := by
  have h := (s.updTracker_boundary n f).trans (State.publishTrack_boundary _ n c)
  rw [State.updTracker_same, hm] at h
  exact h

/-- What an onset leaves of a tracker rests on the clock, the records and the floors alone. -/
theorem State.SameRules.onsetEntry {s t : State} (h : s.SameRules t) (n : StringNo) (peak : Nat) (k : Tracker) :
    t.onsetEntry n peak k = s.onsetEntry n peak k := by
  obtain ⟨hsiu, hlink, hstore, -⟩ := h
  simp only [State.onsetEntry, State.copyFor, State.floorOf, hsiu, hlink, hstore]

/-- A re-pick ends the held note and begins an onset (R85). -/
theorem State.repick_boundary {s : State} {n : StringNo} {h : HeldNote} (hn : (s.trackers.get n).note = some h)
    (ended : Nat) : s.BoundaryOf (s.repick n ended) n (s.onsetEntry n ended (s.trackers.get n))
      (.track n (.ended .repick) h (levelOf (s.trackers.get n).e) :: s.adoption n) := by
  have hend := s.publishTrack_boundary n (.ended .repick)
  have htrackers : (s.publishTrack n (.ended .repick)).trackers = s.trackers := by simp
  have hboth := hend.trans (State.beginOnset_boundary _ n ended)
  rw [State.adoption_congr (s := s) (by simp) (by simp), hend.1.onsetEntry, htrackers, hn] at hboth
  exact hboth

/-- A re-pick is reported to the Learn Engine as the onset that it is (R85, R97). -/
theorem State.repick_learn (s : State) (n : StringNo) (ended : Nat) :
    (s.repick n ended).learn = (s.learnOnset n).learn ∧ (s.repick n ended).ports = (s.learnOnset n).ports := by
  obtain ⟨hlearn, hports⟩ := (s.publishTrack n (.ended .repick)).beginOnset_learn n ended
  obtain ⟨hlearn', hports'⟩ := State.learnOnset_congr (s := s) (t := s.publishTrack n (.ended .repick)) (by simp)
    (by simp) (by simp) n
  exact ⟨hlearn.trans hlearn', hports.trans hports'⟩

/-! ### A sample behind its measuring stages -/

/-- What the measuring stages make of tracker n's sample (R50). -/
def State.measured (s : State) (n : StringNo) (y : Int) : Measurement :=
  (s.trackers.get n).applyClears.measure s.siu.rate s.store.global.offset s.siu.stamp y

/-- The part behind the measuring stages of tracker n's sample, on which its state machine decides (R50, R77). -/
def State.behindStages (s : State) (n : StringNo) (y : Int) : State :=
  s.updTracker n fun _ => (s.measured n y).tracker

section
variable (s : State) (n : StringNo) (y : Int)

theorem State.trackerSample_of_ne_muted (h : (s.trackers.get n).state ≠ .muted) : s.trackerSample n y =
    (s.behindStages n y).decideSample n (s.trackers.get n).state (s.measured n y) := by
  have hsampled : s.sampled n y = (s.measured n y).tracker := if_neg (by rwa [Tracker.applyClears_state])
  rw [State.trackerSample_eq, hsampled, Tracker.applyClears_state]
  rfl

theorem State.measured_keeps : (s.measured n y).tracker.state = (s.trackers.get n).state ∧
    (s.measured n y).tracker.note = (s.trackers.get n).note ∧
    (s.measured n y).tracker.bank = (s.trackers.get n).bank := by
  obtain ⟨hstate, hnote, hbank, -⟩ := (s.trackers.get n).applyClears.measure_keeps s.siu.rate s.store.global.offset
    s.siu.stamp y
  rw [Tracker.applyClears_state] at hstate
  rw [Tracker.applyClears_note] at hnote
  rw [Tracker.applyClears_bank] at hbank
  exact ⟨hstate, hnote, hbank⟩

theorem State.behindStages_tracker :
    (s.behindStages n y).trackers.get n = (s.measured n y).tracker := State.updTracker_same s n _

theorem State.behindStages_state :
    ((s.behindStages n y).trackers.get n).state = (s.trackers.get n).state := by
  obtain ⟨hstate, -⟩ := s.measured_keeps n y
  rw [State.behindStages_tracker, hstate]

theorem State.behindStages_note : ((s.behindStages n y).trackers.get n).note = (s.trackers.get n).note := by
  obtain ⟨-, hnote, -⟩ := s.measured_keeps n y
  rw [State.behindStages_tracker, hnote]

theorem State.behindStages_adoption : (s.behindStages n y).adoption n = s.adoption n := by
  obtain ⟨-, -, hbank⟩ := s.measured_keeps n y
  rw [State.adoption, State.behindStages_tracker, hbank]
  rfl

end

/-- What is decided behind the stages, said of the whole sample: the other trackers stay, and tracker n and the
publications that wait are as the decision makes them. -/
theorem State.BoundaryOf.ofSample {s t : State} {n : StringNo} {y : Int} {k : Tracker} {made : List Publication}
    (h : (s.behindStages n y).BoundaryOf t n k made) :
    (∀ m, m ≠ n → t.trackers.get m = s.trackers.get m) ∧ t.trackers.get n = k ∧
    ∀ p, (t.streams.get p).waiting = s.waitsAfter p n made := by
  obtain ⟨-, htrackers, hstreams⟩ := (s.updTracker_boundary n fun _ => (s.measured n y).tracker).trans h
  refine ⟨fun m hm => ?_, ?_, fun p => ?_⟩
  · rw [htrackers, if_neg hm]
  · rw [htrackers, if_pos rfl]
  · rw [hstreams]
    rfl

theorem State.waitsAfter_nil (s : State) (p : Port) (n : StringNo) :
    s.waitsAfter p n [] = (s.streams.get p).waiting := List.append_nil _

/-! ### ONSET (R82, R83) -/

/-- A tracker whose onset timer has counted a sample and whose onset peak has risen to the period peak of a kept
mark (R82). -/
def Tracker.onsetCounted (t : Tracker) (kept : Option (Nat × Nat)) : Tracker :=
  { t with onsetTimer := t.onsetTimer.map (· + 1),
           onsetPeak := match kept with
             | none => t.onsetPeak
             | some k => min 32767 (max t.onsetPeak k.1) }

/-- The note that an accepted period starts (R82). -/
def Tracker.firstNote (t : Tracker) (pitch : Int) : HeldNote :=
  ⟨anchorOf pitch, pitch, velocityOf t.onsetPeak t.copy.sens⟩

/-- The tracker behind the start of a note (R82). -/
def Tracker.started (t : Tracker) (pitch : Int) : Tracker :=
  { t with state := .sounding, note := some (t.firstNote pitch), articulation := t.articulation + 1,
           onsetTimer := none, levelTimer := some 0 }

section
variable (s : State) (n : StringNo) (kept : Option (Nat × Nat))

theorem State.onsetCounted_boundary : s.BoundaryOf (s.onsetCounted n kept) n
    ((s.trackers.get n).onsetCounted kept) [] := s.updTracker_boundary n fun t => t.onsetCounted kept

theorem State.onsetCounted_tracker :
    (s.onsetCounted n kept).trackers.get n = (s.trackers.get n).onsetCounted kept := State.updTracker_same s n _

/-- An accepted period starts the note (R82). -/
theorem State.sampleOnset_of_accepted (pitch : Int) :
    s.BoundaryOf (s.sampleOnset n kept (some pitch)) n (((s.trackers.get n).onsetCounted kept).started pitch)
      [.track n .start (((s.trackers.get n).onsetCounted kept).firstNote pitch) (levelOf (s.trackers.get n).e)] := by
  have hstart := (s.onsetCounted n kept).updTracker_publishTrack_boundary n (f := fun t => t.started pitch) rfl .start
  rw [State.onsetCounted_tracker] at hstart
  rw [State.sampleOnset_eq]
  exact (s.onsetCounted_boundary n kept).trans hstart

/-- Without one an E below G_off is a ghost (R83). -/
theorem State.sampleOnset_of_low (h : (s.trackers.get n).e < (s.trackers.get n).copy.gOff) :
    s.BoundaryOf (s.sampleOnset n kept none) n
      (s.silentEntry n { (s.trackers.get n).onsetCounted kept with ghost := (s.trackers.get n).ghost + 1 })
      (s.adoption n) := by
  have hghost := (s.onsetCounted n kept).ghost_boundary n
  have hadoption : (s.onsetCounted n kept).adoption n = s.adoption n := by
    simp [State.adoption, State.onsetCounted]
  have hlow : ((s.onsetCounted n kept).trackers.get n).e < ((s.onsetCounted n kept).trackers.get n).copy.gOff := by
    rwa [State.onsetCounted_tracker]
  have hcount : s.sampleOnset n kept none = (s.onsetCounted n kept).ghost n :=
    (s.sampleOnset_eq n kept none).trans (if_pos hlow)
  rw [State.onsetCounted_tracker, hadoption] at hghost
  rw [hcount]
  exact (s.onsetCounted_boundary n kept).trans hghost

/-- Else the tracker waits in ONSET (R82). -/
theorem State.sampleOnset_of_high (h : ¬ (s.trackers.get n).e < (s.trackers.get n).copy.gOff) :
    s.sampleOnset n kept none = s.onsetCounted n kept := by
  refine (s.sampleOnset_eq n kept none).trans (if_neg ?_)
  rwa [State.onsetCounted_tracker]

end

/-- Settles O26: the start, the ghost and the wait, each as the boundary it is. -/
theorem onsetSample : Obligations.OnsetSample := by
  intro s n y hst r t peak raised
  have ht : t = (s.behindStages n y).sampleOnset n r.kept r.accepted := by
    have hsample := s.trackerSample_of_ne_muted n y (by rw [hst]; nofun)
    rwa [hst] at hsample
  have hown : (s.behindStages n y).trackers.get n = r.tracker := s.behindStages_tracker n y
  obtain ⟨hlearn, hports⟩ : t.learn = s.learn ∧ t.ports = s.ports := by
    rw [ht]
    simp [State.behindStages]
  cases ha : r.accepted with
  | some v =>
    have hstart := (s.behindStages n y).sampleOnset_of_accepted n r.kept v
    rw [← ha, ← ht, hown] at hstart
    obtain ⟨hother, htracker, hwaits⟩ := hstart.ofSample
    exact ⟨hother, hlearn, hports, htracker, hwaits⟩
  | none =>
    dsimp only
    split
    · next hlow =>
      have hghost := (s.behindStages n y).sampleOnset_of_low n r.kept (by rwa [hown])
      rw [← ha, ← ht, hown, State.behindStages_adoption] at hghost
      obtain ⟨hother, htracker, hwaits⟩ := hghost.ofSample
      exact ⟨hother, hlearn, hports, htracker, hwaits⟩
    · next hhigh =>
      have hwait := (s.behindStages n y).onsetCounted_boundary n r.kept
      rw [← State.sampleOnset_of_high _ n r.kept (by rwa [hown]), ← ha, ← ht, hown] at hwait
      obtain ⟨hother, htracker, hwaits⟩ := hwait.ofSample
      exact ⟨hother, hlearn, hports, htracker, fun p => (hwaits p).trans (s.waitsAfter_nil p n)⟩

/-! ### Re-picks and acceptances (R84, R85) -/

theorem Tracker.repicked_eq (t : Tracker) (kept : Option (Nat × Nat)) : t.repicked kept =
    (kept.filter fun k => decide (k.2 * t.copy.repick / 16 < k.1 ∧ t.copy.gOn ≤ k.1)).map Prod.fst := by
  cases kept with
  | none => rfl
  | some k =>
    simp only [Tracker.repicked, repickCondition, Option.filter_some, Bool.decide_and]
    exact (apply_ite (Option.map Prod.fst) _ (some k) none).symm

/-- A re-pick behind the stages of a sample, said of the whole sample (R85, R97). -/
theorem State.repick_ofSample {s : State} {n : StringNo} {h : HeldNote} (hn : (s.trackers.get n).note = some h)
    (y : Int) (ended : Nat) :
    let r := s.measured n y
    let t := (s.behindStages n y).repick n ended
    (∀ m, m ≠ n → t.trackers.get m = s.trackers.get m) ∧
    t.learn = (s.learnOnset n).learn ∧ t.ports = (s.learnOnset n).ports ∧
    t.trackers.get n = s.onsetEntry n ended r.tracker ∧
    ∀ p, (t.streams.get p).waiting =
      s.waitsAfter p n (.track n (.ended .repick) h (levelOf r.tracker.e) :: s.adoption n) := by
  intro r t
  have hb := State.repick_boundary ((s.behindStages_note n y).trans hn) ended
  rw [State.behindStages_adoption, State.behindStages_tracker] at hb
  obtain ⟨hother, hown, hwaits⟩ := hb.ofSample
  obtain ⟨hlearn, hports⟩ := (s.behindStages n y).repick_learn n ended
  obtain ⟨hlearn', hports'⟩ := State.learnOnset_congr (s := s) (t := s.behindStages n y) rfl rfl rfl n
  exact ⟨hother, hlearn.trans hlearn', hports.trans hports', hown, hwaits⟩

/-- The note held behind an acceptance: a new one at a change of jump or more, else the held one at the accepted
pitch (R84). -/
def Tracker.acceptedNote (t : Tracker) (h : HeldNote) (pitch : Int) : HeldNote :=
  if t.copy.jump ≤ (pitch - h.pitch).natAbs then ⟨anchorOf pitch, pitch, velocityOf t.e t.copy.sens⟩
  else { h with pitch := pitch }

/-- A tracker behind the acceptance of its sample, if the sample brought one (R84, R87). -/
def Tracker.accepting (t : Tracker) (h : HeldNote) : Option Int → Tracker
  | none => t
  | some v => { t with
      state := if t.copy.jump ≤ (v - h.pitch).natAbs then .sounding else t.state,
      releaseTimer := if t.copy.jump ≤ (v - h.pitch).natAbs then none else t.releaseTimer,
      note := some (t.acceptedNote h v),
      articulation := if t.copy.jump ≤ (v - h.pitch).natAbs then t.articulation + 1 else t.articulation }

/-- What an acceptance publishes: ARTIC at a change of jump or more, and else PITCH (R84). -/
def Tracker.acceptanceMade (t : Tracker) (n : StringNo) (h : HeldNote) : Option Int → List Publication
  | none => []
  | some v => [.track n (if t.copy.jump ≤ (v - h.pitch).natAbs then .artic else .pitch) (t.acceptedNote h v)
      (levelOf t.e)]

theorem State.acceptIf_boundary {s : State} {n : StringNo} {h : HeldNote} (hn : (s.trackers.get n).note = some h)
    (accepted : Option Int) : s.BoundaryOf (s.acceptIf n accepted) n ((s.trackers.get n).accepting h accepted)
      ((s.trackers.get n).acceptanceMade n h accepted) := by
  cases accepted with
  | none => exact .refl s n
  | some v =>
    simp only [State.acceptIf, State.accept, hn, Tracker.accepting, Tracker.acceptanceMade, Tracker.acceptedNote]
    by_cases hjump : (s.trackers.get n).copy.jump ≤ (v - h.pitch).natAbs
    · simp only [if_pos hjump]
      exact s.updTracker_publishTrack_boundary n rfl .artic
    · simp only [if_neg hjump]
      exact s.updTracker_publishTrack_boundary n rfl .pitch

/-- A change of the tracker behind its boundary. -/
theorem State.BoundaryOf.updTracker {s t : State} {n : StringNo} {k : Tracker} {made : List Publication}
    (h : s.BoundaryOf t n k made) (f : Tracker → Tracker) : s.BoundaryOf (t.updTracker n f) n (f k) made := by
  have hboth := h.trans (t.updTracker_boundary n f)
  obtain ⟨-, htrackers, -⟩ := h
  rw [htrackers, if_pos rfl, List.append_nil] at hboth
  exact hboth

/-! ### SOUNDING (R84, R88) -/

/-- A tracker that falls to RELEASING where its E is below G_off (R84, R87). -/
def Tracker.fallen (t : Tracker) : Tracker :=
  if t.e < t.copy.gOff then { t with state := .releasing, releaseTimer := some t.copy.releaseHold } else t

/-- The level timer of a tracker rises (R88). -/
def Tracker.levelRaised (t : Tracker) : Tracker := { t with levelTimer := t.levelTimer.map (· + 1) }

/-- The tracker behind a sample in SOUNDING without a re-pick, once its acceptance is made (R84, R88). -/
def Tracker.sounded (t : Tracker) : Tracker :=
  { t with state := if t.e < t.copy.gOff then .releasing else .sounding,
           releaseTimer := if t.e < t.copy.gOff then some t.copy.releaseHold else t.releaseTimer,
           levelTimer := t.levelTimer.map (· + 1) }

theorem Tracker.fallen_levelRaised {t : Tracker} (h : t.state = .sounding) : t.fallen.levelRaised = t.sounded := by
  unfold Tracker.fallen Tracker.sounded
  split
  · rfl
  · rw [← h]
    rfl

section
variable {s : State} {n : StringNo} {kept : Option (Nat × Nat)} {h : HeldNote}

theorem State.sampleSounding_of_repick {ended : Nat} (hr : (s.trackers.get n).repicked kept = some ended)
    (accepted : Option Int) : s.sampleSounding n kept accepted = s.repick n ended := by
  rw [State.sampleSounding, hr]

theorem State.sampleSounding_boundary (hr : (s.trackers.get n).repicked kept = none)
    (hn : (s.trackers.get n).note = some h) (hs : (s.trackers.get n).state = .sounding) (accepted : Option Int) :
    s.BoundaryOf (s.sampleSounding n kept accepted) n ((s.trackers.get n).accepting h accepted).sounded
      ((s.trackers.get n).acceptanceMade n h accepted) := by
  have hstate : ((s.trackers.get n).accepting h accepted).state = .sounding := by
    cases accepted with
    | none => exact hs
    | some v => simp [Tracker.accepting, hs]
  have hsounds := ((State.acceptIf_boundary hn accepted).updTracker Tracker.fallen).updTracker Tracker.levelRaised
  rw [Tracker.fallen_levelRaised hstate] at hsounds
  rw [State.sampleSounding, hr]
  exact hsounds

/-- Without a re-pick nothing reaches the Learn Engine or the ports (R97). -/
theorem State.sampleSounding_quiet (hr : (s.trackers.get n).repicked kept = none) (accepted : Option Int) :
    (s.sampleSounding n kept accepted).learn = s.learn ∧ (s.sampleSounding n kept accepted).ports = s.ports := by
  simp [State.sampleSounding, hr]

end

/-- Settles O27: a re-pick, or an acceptance with the fall and the level timer behind it. -/
theorem soundingSample : Obligations.SoundingSample := by
  intro s n y h hst hn r c t level picked go
  have ht : t = (s.behindStages n y).sampleSounding n r.kept r.accepted := by
    have hsample := s.trackerSample_of_ne_muted n y (by rw [hst]; nofun)
    rwa [hst] at hsample
  have hown : (s.behindStages n y).trackers.get n = r.tracker := s.behindStages_tracker n y
  have hpicked : ((s.behindStages n y).trackers.get n).repicked r.kept = picked.map Prod.fst := by
    rw [hown, Tracker.repicked_eq]
  cases hp : picked with
  | some k =>
    rw [hp] at hpicked
    rw [ht, State.sampleSounding_of_repick hpicked]
    exact State.repick_ofSample hn y k.1
  | none =>
    rw [hp] at hpicked
    obtain ⟨hlearn, hports⟩ := State.sampleSounding_quiet hpicked r.accepted
    have hsounds := State.sampleSounding_boundary hpicked ((s.behindStages_note n y).trans hn)
      ((s.behindStages_state n y).trans hst) r.accepted
    rw [← ht, hown] at hsounds
    rw [← ht] at hlearn hports
    obtain ⟨hother, htracker, hwaits⟩ := hsounds.ofSample
    refine ⟨hother, hlearn, hports, ?_⟩
    cases ha : r.accepted with
    | none =>
      rw [ha] at htracker hwaits
      exact ⟨htracker, fun p => (hwaits p).trans (s.waitsAfter_nil p n)⟩
    | some v =>
      rw [ha] at htracker hwaits
      exact ⟨htracker, hwaits⟩

/-! ### RELEASING (R87, R88) -/

/-- RELEASING behind an acceptance: the return to SOUNDING, or the release timer falls (R87). -/
def Tracker.returned (t : Tracker) : Tracker :=
  if t.state = .releasing then
    if t.copy.gOn ≤ t.e then { t with state := .sounding, releaseTimer := none }
    else { t with releaseTimer := t.releaseTimer.map (· - 1) }
  else t

/-- The tracker behind a sample in RELEASING without a re-pick, once its acceptance is made: it sounds again, or its
release timer falls (R87, R88). -/
def Tracker.released (t : Tracker) (sounds : Bool) : Tracker :=
  let timer := if sounds then none else t.releaseTimer.map (· - 1)
  { t with state := if sounds then .sounding else .releasing, releaseTimer := timer,
           levelTimer := if timer = some 0 then t.levelTimer else t.levelTimer.map (· + 1) }

/-- The level timer rises unless the note ends at this sample (R88). -/
def Tracker.levelRaisedUnlessDue (t : Tracker) : Tracker := if t.releaseDue then t else t.levelRaised

theorem Tracker.levelRaisedUnlessDue_of_sounding {t : Tracker} (hs : t.state = .sounding)
    (hr : t.releaseTimer = none) : t.levelRaisedUnlessDue = t.released true := by
  have hdue : ¬ t.releaseDue = true := by simp [Tracker.releaseDue_iff, hs]
  rw [Tracker.levelRaisedUnlessDue, if_neg hdue, Tracker.levelRaised, Tracker.released, ← hs, ← hr]
  simp [hr]

/-- A tracker that an articulation has made SOUNDING again is not asked to return (R87). -/
theorem Tracker.returned_of_sounding {t : Tracker} (hs : t.state = .sounding) : t.returned = t :=
  if_neg (by simp [hs])

theorem Tracker.returned_levelRaisedUnlessDue {t : Tracker} (hs : t.state = .releasing) :
    t.returned.levelRaisedUnlessDue = t.released (decide (t.copy.gOn ≤ t.e)) := by
  rw [Tracker.returned, if_pos hs]
  split
  · next hreturns =>
    rw [decide_eq_true hreturns]
    exact Tracker.levelRaisedUnlessDue_of_sounding rfl rfl
  · next hstays =>
    rw [decide_eq_false hstays]
    simp only [Tracker.levelRaisedUnlessDue, Tracker.releaseDue_iff, hs, Tracker.released]
    by_cases hzero : t.releaseTimer.map (· - 1) = some 0
    · simp [hzero, ← hs]
    · simp [hzero, ← hs, Tracker.levelRaised]

/-- What an acceptance in RELEASING leaves to be decided: an ARTIC sounds again, and else E decides (R87). -/
theorem Tracker.accepting_returned {t : Tracker} (hs : t.state = .releasing) (h : HeldNote) (v : Int) :
    (t.accepting h (some v)).returned.levelRaisedUnlessDue = Tracker.released { t with
      note := some (t.acceptedNote h v),
      articulation := if t.copy.jump ≤ (v - h.pitch).natAbs then t.articulation + 1 else t.articulation }
      (decide (t.copy.jump ≤ (v - h.pitch).natAbs) || decide (t.copy.gOn ≤ t.e)) := by
  by_cases hjump : t.copy.jump ≤ (v - h.pitch).natAbs
  · have hsounding : (t.accepting h (some v)).state = .sounding := if_pos hjump
    have htimer : (t.accepting h (some v)).releaseTimer = none := if_pos hjump
    rw [Tracker.returned_of_sounding hsounding, Tracker.levelRaisedUnlessDue_of_sounding hsounding htimer,
      decide_eq_true hjump]
    rfl
  · have hreleasing : (t.accepting h (some v)).state = .releasing := (if_neg hjump).trans hs
    rw [Tracker.returned_levelRaisedUnlessDue hreleasing, decide_eq_false hjump]
    simp only [Tracker.accepting, if_neg hjump, Bool.false_or]

section
variable {s : State} {n : StringNo} {kept : Option (Nat × Nat)} {h : HeldNote}

theorem State.sampleReleasing_of_repick {ended : Nat} (hr : (s.trackers.get n).repicked kept = some ended)
    (accepted : Option Int) : s.sampleReleasing n kept accepted = s.repick n ended := by
  rw [State.sampleReleasing, hr]

theorem State.sampleReleasing_boundary (hr : (s.trackers.get n).repicked kept = none)
    (hn : (s.trackers.get n).note = some h) (accepted : Option Int) :
    s.BoundaryOf (s.sampleReleasing n kept accepted) n
      ((s.trackers.get n).accepting h accepted).returned.levelRaisedUnlessDue
      ((s.trackers.get n).acceptanceMade n h accepted) := by
  have hreturned := (State.acceptIf_boundary hn accepted).updTracker Tracker.returned
  have hown : (((s.acceptIf n accepted).updTracker n Tracker.returned).trackers.get n) =
      ((s.trackers.get n).accepting h accepted).returned := by
    obtain ⟨-, htrackers, -⟩ := hreturned
    rw [htrackers, if_pos rfl]
  have hsample : s.sampleReleasing n kept accepted =
      if (((s.acceptIf n accepted).updTracker n Tracker.returned).trackers.get n).releaseDue then
        (s.acceptIf n accepted).updTracker n Tracker.returned
      else ((s.acceptIf n accepted).updTracker n Tracker.returned).updTracker n Tracker.levelRaised := by
    rw [State.sampleReleasing, hr]
    rfl
  rw [hsample, hown, Tracker.levelRaisedUnlessDue]
  split
  · exact hreturned
  · exact hreturned.updTracker Tracker.levelRaised

/-- Without a re-pick nothing reaches the Learn Engine or the ports (R97). -/
theorem State.sampleReleasing_quiet (hr : (s.trackers.get n).repicked kept = none) (accepted : Option Int) :
    (s.sampleReleasing n kept accepted).learn = s.learn ∧
    (s.sampleReleasing n kept accepted).ports = s.ports := by
  simp only [State.sampleReleasing, hr]
  split <;> simp

end

/-- Settles O28: a re-pick, or an acceptance with the return, the release timer and the level timer behind it. -/
theorem releasingSample : Obligations.ReleasingSample := by
  intro s n y h hst hn r c t level picked go returns
  have ht : t = (s.behindStages n y).sampleReleasing n r.kept r.accepted := by
    have hsample := s.trackerSample_of_ne_muted n y (by rw [hst]; nofun)
    rwa [hst] at hsample
  have hown : (s.behindStages n y).trackers.get n = r.tracker := s.behindStages_tracker n y
  have hpicked : ((s.behindStages n y).trackers.get n).repicked r.kept = picked.map Prod.fst := by
    rw [hown, Tracker.repicked_eq]
  cases hp : picked with
  | some k =>
    rw [hp] at hpicked
    rw [ht, State.sampleReleasing_of_repick hpicked]
    exact State.repick_ofSample hn y k.1
  | none =>
    rw [hp] at hpicked
    obtain ⟨hlearn, hports⟩ := State.sampleReleasing_quiet hpicked r.accepted
    have hreleases := State.sampleReleasing_boundary hpicked ((s.behindStages_note n y).trans hn) r.accepted
    rw [← ht, hown] at hreleases
    rw [← ht] at hlearn hports
    obtain ⟨hother, htracker, hwaits⟩ := hreleases.ofSample
    have hstate : r.tracker.state = .releasing := by rw [← hown, s.behindStages_state, hst]
    refine ⟨hother, hlearn, hports, ?_⟩
    cases ha : r.accepted with
    | none =>
      rw [ha] at htracker hwaits
      exact ⟨htracker.trans (Tracker.returned_levelRaisedUnlessDue hstate),
        fun p => (hwaits p).trans (s.waitsAfter_nil p n)⟩
    | some v =>
      rw [ha] at htracker hwaits
      exact ⟨htracker.trans (Tracker.accepting_returned hstate h v), hwaits⟩

end Sys2Proof.Machine
end

section
/-!
PROOF. SELECT_BANK: the requested banks, and the adoptions that follow at once in SILENT and MUTED (R91, R116).
-/

namespace Sys2Proof.Machine

/-! ### A change of a requested bank at its tracker (R91) -/

section
variable (s : State) (n : StringNo)

theorem State.adoptBank_boundary : s.BoundaryOf (s.adoptBank n) n
    { s.trackers.get n with bank := s.store.requested.get n } (s.adoption n) := by
  refine ⟨by simp [State.SameRules], fun m => ?_, s.adoptBank_stream n⟩
  by_cases hb : (s.trackers.get n).bank = s.store.requested.get n
  · rw [State.adoptBank, if_pos hb, ← hb]
    split
    · next h => rw [h]
    · rfl
  · rw [State.adoptBank, if_neg hb, State.publish_trackers, State.updTracker_get]
    split
    · next h => rw [h]
    · rfl

/-- Tracker n behind a request of bank k (R91). -/
def State.requestEntry (k : Bank) : Tracker :=
  let t := s.trackers.get n
  if t.bank ≠ k ∧ t.state = .silent then { t with bank := k, copy := s.copyFor n k }
  else if t.bank ≠ k ∧ t.state = .muted then { t with bank := k }
  else t

/-- What tracker n publishes at a change of its requested bank (R91). -/
def State.requestMade : List Publication :=
  if (s.trackers.get n).state = .silent ∨ (s.trackers.get n).state = .muted then s.adoption n else []

theorem State.requestMade_of_requested {k : Bank} (h : s.store.requested.get n = k) : s.requestMade n =
    if (s.trackers.get n).bank ≠ k ∧ ((s.trackers.get n).state = .silent ∨ (s.trackers.get n).state = .muted) then
      [.notice .bankAdopted n.number k.code]
    else [] := by
  subst h
  by_cases hb : (s.trackers.get n).bank = s.store.requested.get n <;> simp [State.requestMade, State.adoption, hb]

theorem State.SameRules.copyFor {s t : State} (h : s.SameRules t) (n : StringNo) (k : Bank) :
    t.copyFor n k = s.copyFor n k := by
  obtain ⟨-, hlink, hstore, -⟩ := h
  simp only [State.copyFor, State.floorOf, hlink, hstore]

end

section
variable {s : State} {n : StringNo}

theorem State.adoptBank_of_eq (h : (s.trackers.get n).bank = s.store.requested.get n) : s.adoptBank n = s := if_pos h

theorem State.adoptBank_of_ne (h : (s.trackers.get n).bank ≠ s.store.requested.get n) : s.adoptBank n =
    (s.updTracker n fun t => { t with bank := s.store.requested.get n }).publish (.tracker n)
      (.notice .bankAdopted n.number (s.store.requested.get n).code) := if_neg h

theorem State.takeRequest_of_eq (h : (s.trackers.get n).bank = s.store.requested.get n) : s.takeRequest n = s :=
  if_pos h

theorem State.takeRequest_of_silent (h : (s.trackers.get n).bank ≠ s.store.requested.get n)
    (hst : (s.trackers.get n).state = .silent) : s.takeRequest n = (s.adoptBank n).takeCopy n := by
  rw [State.takeRequest, if_neg h, hst]

theorem State.takeRequest_of_muted (hst : (s.trackers.get n).state = .muted) : s.takeRequest n = s.adoptBank n := by
  rw [State.takeRequest, hst, State.adoptBank]
  split <;> rfl

theorem State.takeRequest_of_other (hs : (s.trackers.get n).state ≠ .silent)
    (hm : (s.trackers.get n).state ≠ .muted) : s.takeRequest n = s := by
  unfold State.takeRequest
  dsimp only
  split
  · rfl
  · split
    · next h => exact absurd h hs
    · next h => exact absurd h hm
    · rfl

end

theorem State.takeRequest_boundary (s : State) (n : StringNo) :
    s.BoundaryOf (s.takeRequest n) n (s.requestEntry n (s.store.requested.get n)) (s.requestMade n) := by
  have hadopt := s.adoptBank_boundary n
  by_cases hb : (s.trackers.get n).bank = s.store.requested.get n
  · rw [State.takeRequest_of_eq hb]
    simpa [State.requestEntry, State.requestMade, State.adoption, hb] using State.BoundaryOf.refl s n
  by_cases hs : (s.trackers.get n).state = .silent
  · have hcopy : s.BoundaryOf ((s.adoptBank n).takeCopy n) n _ _ :=
      hadopt.updTracker fun t => { t with copy := (s.adoptBank n).copyFor n t.bank }
    rw [hadopt.1.copyFor] at hcopy
    rw [State.takeRequest_of_silent hb hs]
    simpa only [State.requestEntry, State.requestMade, hb, hs, ne_eq, not_false_eq_true, true_and, if_true,
      true_or] using hcopy
  by_cases hm : (s.trackers.get n).state = .muted
  · rw [State.takeRequest_of_muted hm]
    simpa [State.requestEntry, State.requestMade, hb, hm] using hadopt
  · rw [State.takeRequest_of_other hs hm]
    simpa [State.requestEntry, State.requestMade, hs, hm] using State.BoundaryOf.refl s n

/-! ### The requests of a mask (R116) -/

/-- The part with other requested banks. -/
def State.requesting (s : State) (v : Six Bank) : State := { s with store := { s.store with requested := v } }

/-- A tracker's change reads the request of its own string alone. -/
theorem State.takeRequest_requesting {s : State} {n : StringNo} {v : Six Bank}
    (h : s.store.requested.get n = v.get n) : (s.takeRequest n).requesting v = (s.requesting v).takeRequest n := by
  by_cases hb : (s.trackers.get n).bank = s.store.requested.get n
  · have hb' : ((s.requesting v).trackers.get n).bank = (s.requesting v).store.requested.get n := hb.trans h
    rw [State.takeRequest_of_eq hb, State.takeRequest_of_eq hb']
  have hb' : ((s.requesting v).trackers.get n).bank ≠ (s.requesting v).store.requested.get n :=
    fun hv => hb (hv.trans h.symm)
  have hadopt : (s.adoptBank n).requesting v = (s.requesting v).adoptBank n := by
    rw [State.adoptBank_of_ne hb, State.adoptBank_of_ne hb', h]
    rfl
  by_cases hs : (s.trackers.get n).state = .silent
  · rw [State.takeRequest_of_silent hb hs, State.takeRequest_of_silent hb' hs, ← hadopt]
    rfl
  by_cases hm : (s.trackers.get n).state = .muted
  · rw [State.takeRequest_of_muted hm, State.takeRequest_of_muted (s := s.requesting v) hm, hadopt]
  · rw [State.takeRequest_of_other hs hm, State.takeRequest_of_other (s := s.requesting v) hs hm]

/-- The part behind the requests of a mask, string by string (R116). -/
def State.requestBanks (s : State) (mask : Byte) (k : Bank) : State :=
  s.forStrings fun n t => if inMask mask n then t.requestBank k n else t

theorem State.doSelectBank_eq (s : State) (mask : Byte) (k : Bank) (h : mask.toNat < 64) :
    s.doSelectBank mask (BitVec.ofNat 8 k.code) =
      (s.requestBanks mask k, ok (requestedBytes (s.requestBanks mask k).store.requested)) := by
  rw [State.doSelectBank, bankOfCode?_code]
  exact if_neg (by omega)

theorem State.doSelectBank_invalid (s : State) {mask bank : Byte} (h : 2 ≤ bank.toNat ∨ 64 ≤ mask.toNat) :
    s.doSelectBank mask bank = (s, refuse .invalid) := by
  unfold State.doSelectBank
  split
  · rfl
  · next k hk =>
    obtain hbank | hmask := h
    · rw [bankOfCode?_eq_none _ hbank] at hk
      cases hk
    · exact if_pos hmask

/-- Requests made one by one are those of all the strings named (R116). -/
theorem foldl_set_get (q : StringNo → Bool) (k : Bank) (m : StringNo) (l : List StringNo) :
    ∀ v : Six Bank, (l.foldl (fun v n => if q n then v.set n k else v) v).get m =
      if m ∈ l ∧ q m = true then k else v.get m := by
  induction l with
  | nil => simp
  | cons n l ih =>
    intro v
    rw [List.foldl_cons, ih]
    by_cases hm : m = n
    · subst hm
      by_cases hq : q m = true <;> simp [hq]
    · by_cases hq : q n = true <;> simp [hq, hm, Six.get_set]

section
variable (s : State) (mask : Byte) (k : Bank)

theorem State.requestBanks_requested (n : StringNo) : (s.requestBanks mask k).store.requested.get n =
    if inMask mask n then k else s.store.requested.get n := by
  have hfold : (s.requestBanks mask k).store.requested =
      StringNo.all.foldl (fun v n => if inMask mask n then v.set n k else v) s.store.requested := by
    refine (List.foldl_hom (fun t : State => t.store.requested) fun t n => ?_).symm
    by_cases hn : inMask mask n = true <;> simp [hn, State.requestBank]
  rw [hfold, foldl_set_get]
  simp [n.mem_all]

/-- The requests of a mask are made in the records first, and then each tracker of the mask takes its own. -/
theorem State.requestBanks_eq {v : Six Bank} (hv : v = (s.requestBanks mask k).store.requested) :
    s.requestBanks mask k =
      (s.requesting v).forStrings fun n t => if inMask mask n then t.takeRequest n else t := by
  have hown (n : StringNo) (hn : inMask mask n = true) : v.get n = k := by
    rw [hv, State.requestBanks_requested, if_pos hn]
  have hfold := List.foldl_hom (fun t : State => t.requesting v)
    (g₁ := fun t n => if inMask mask n then t.requestBank k n else t)
    (g₂ := fun t n => if inMask mask n then t.takeRequest n else t) (l := StringNo.all) (init := s) fun t n => by
      split
      · next hn => exact (State.takeRequest_requesting (s := t.requesting (t.store.requested.set n k))
          ((Six.get_set_same _ n k).trans (hown n hn).symm)).symm
      · rfl
  have hsame : (s.requestBanks mask k).requesting v = s.requestBanks mask k := by
    rw [hv]
    rfl
  exact hsame.symm.trans hfold.symm

end

theorem State.requestEntry_congr {s t : State} {n : StringNo} (h : s.SameRules t)
    (ht : t.trackers.get n = s.trackers.get n) (k : Bank) : t.requestEntry n k = s.requestEntry n k := by
  simp only [State.requestEntry, ht, h.copyFor]

theorem State.requestMade_congr {s t : State} {n : StringNo} (h : s.SameRules t)
    (ht : t.trackers.get n = s.trackers.get n) : t.requestMade n = s.requestMade n := by
  obtain ⟨-, -, hstore, -⟩ := h
  simp only [State.requestMade, ht, State.adoption_congr (congrArg Store.requested hstore) ht]

/-- The trackers of a mask take their requests. -/
theorem State.maskRequests_all (s : State) (mask : Byte) :
    let t := s.forStrings fun n t => if inMask mask n then t.takeRequest n else t
    s.SameRules t ∧
    (∀ n, t.trackers.get n = if inMask mask n then s.requestEntry n (s.store.requested.get n)
      else s.trackers.get n) ∧
    ∀ p, t.streams.get p = { s.streams.get p with
      waiting := (s.streams.get p).waiting ++
        s.waitingOf StringNo.all fun n => if inMask mask n then s.requestMade n else [] } :=
  State.forStrings_boundaries fun n t h ht => by
    split
    · obtain ⟨-, -, hstore, -⟩ := id h
      rw [← State.requestEntry_congr h ht, ← State.requestMade_congr h ht, ← hstore]
      exact t.takeRequest_boundary n
    · rw [← ht]
      exact .refl t n

section
variable (s : State) (mask : Byte) (k : Bank)

/-- A request leaves all but the requested banks, the trackers and what waits at the streams (R91, R116). -/
theorem State.requestBanks_keeps : (s.requestBanks mask k).siu = s.siu ∧ (s.requestBanks mask k).link = s.link ∧
    (s.requestBanks mask k).cond = s.cond ∧ (s.requestBanks mask k).learn = s.learn ∧
    (s.requestBanks mask k).ports = s.ports ∧ (s.requestBanks mask k).store.banks = s.store.banks ∧
    (s.requestBanks mask k).store.global = s.store.global ∧ (s.requestBanks mask k).phase = s.phase := by
  obtain ⟨⟨hsiu, hlink, hstore, hphase⟩, -⟩ :=
    (s.requesting (s.requestBanks mask k).store.requested).maskRequests_all mask
  rw [← s.requestBanks_eq mask k rfl] at hsiu hlink hstore hphase
  refine ⟨hsiu, hlink, ?_, ?_, ?_, (congrArg Store.banks hstore).trans rfl,
    (congrArg Store.global hstore).trans rfl, hphase⟩
  all_goals exact State.forStrings_keeps _ _ _ fun n t => by split <;> simp

/-- The tracker of a string that the mask names, and of one that it does not (R91, R116). -/
theorem State.requestBanks_tracker (n : StringNo) : (s.requestBanks mask k).trackers.get n =
    let was := s.trackers.get n
    if inMask mask n = true ∧ was.bank ≠ k ∧ was.state = .silent then
      { was with bank := k, copy := s.copyFor n k }
    else if inMask mask n = true ∧ was.bank ≠ k ∧ was.state = .muted then { was with bank := k }
    else was := by
  have hrequested := s.requestBanks_requested mask k n
  obtain ⟨-, htrackers, -⟩ := (s.requesting (s.requestBanks mask k).store.requested).maskRequests_all mask
  rw [s.requestBanks_eq mask k rfl, htrackers]
  by_cases hn : inMask mask n = true
  · have hown : (s.requesting _).store.requested.get n = k := hrequested.trans (if_pos hn)
    rw [if_pos hn, hown]
    simp only [hn, true_and]
    rfl
  · simp only [hn]
    rfl

/-- The notices of the adoptions wait in the order of the strings (R91). -/
theorem State.requestBanks_stream (q : Port) : (s.requestBanks mask k).streams.get q = { s.streams.get q with
    waiting := (s.streams.get q).waiting ++ StringNo.all.filterMap fun n =>
      let was := s.trackers.get n
      if inMask mask n = true ∧ was.bank ≠ k ∧ (was.state = .silent ∨ was.state = .muted) then
        some ⟨.tracker n, s.siu.stamp, s.phase, .notice .bankAdopted n.number k.code⟩
      else none } := by
  obtain ⟨-, -, hstreams⟩ := (s.requesting (s.requestBanks mask k).store.requested).maskRequests_all mask
  rw [s.requestBanks_eq mask k rfl, hstreams, List.filterMap_eq_flatMap_toList]
  refine congrArg (fun w => { s.streams.get q with waiting := (s.streams.get q).waiting ++ w })
    (List.flatMap_congr fun n _ => ?_)
  have hrequested := s.requestBanks_requested mask k n
  dsimp only
  by_cases hn : inMask mask n = true
  · have hown : (s.requesting _).store.requested.get n = k := hrequested.trans (if_pos hn)
    rw [if_pos hn, State.requestMade_of_requested _ n hown, apply_ite (List.map _), apply_ite Option.toList]
    simp only [hn, true_and]
    rfl
  · simp only [hn]
    rfl

end

theorem exec_selectBank (p : Port) (mask bank : Byte) (s : State) :
    exec (.selectBank p mask bank) s = .next (s.frame p 2 fun t => t.doSelectBank mask bank) := rfl

/-- Settles O33: a request that is refused, and one that the trackers of the mask take. -/
theorem selectBank : Obligations.SelectBank := by
  intro p mask bank s hready
  rw [exec_selectBank, State.frame_of_ready 2 _ hready]
  refine ⟨fun h => ?_, fun k hmask hbank => ⟨s.requestBanks mask k, ?_, ?_⟩⟩
  · rw [State.doSelectBank_invalid s h]
    rfl
  · rw [hbank, State.doSelectBank_eq s mask k hmask]
    rfl
  · obtain ⟨hsiu, hlink, hcond, hlearn, hports, hbanks, hglobal, hphase⟩ := s.requestBanks_keeps mask k
    exact ⟨hsiu, hlink, hcond, hlearn, hports, hbanks, hglobal, hphase, s.requestBanks_stream mask k,
      fun n => ⟨s.requestBanks_requested mask k n, s.requestBanks_tracker mask k n⟩⟩

end Sys2Proof.Machine
end

section
/-!
PROOF. READ_PROFILE and READ_GLOBAL: the two records byte by byte, with the requested banks (R103, R191, R192).
-/

namespace Sys2Proof.Machine

/-! ### The images of the records in bytes (R191, R192) -/

theorem be16_eq (w : Half) : be16 w = [BitVec.ofNat 8 (w.toNat / 256), BitVec.ofNat 8 w.toNat] := by
  rw [← num16_eq, num16, BitVec.ofNat_toNat, BitVec.setWidth_eq]

theorem overrideMarks_eq (o : Option Override) :
    overrideMarks o = (if o.isSome then 1 else 0) + 4 * markOf (o.bind Override.tol) +
      16 * markOf (o.bind Override.onsetTimeout) + 64 * markOf (o.bind Override.jump) := by
  cases o <;> rfl

theorem markOf_eq (v : Option Nat) : markOf v = if v.isSome then 1 else 0 := by
  cases v <;> rfl

/-- The 23 bytes of a record, the numbers of two bytes most significant first (R191). -/
theorem Profile.image_bytes (r : Profile) : imageBytes r.image =
    num16 r.windowLow ++ num16 r.windowHigh ++
      (byte r.gateOn ++ byte r.gateOff ++ byte r.repick ++ byte r.sens ++ byte r.decay) ++
      num16 r.releaseHold ++ num16 r.bleedThinner ++ num16 r.bleedThicker ++
      (byte (overrideMarks r.override) ++ byte (overrideField r.override Override.tol)) ++
      num16 (overrideField r.override Override.onsetTimeout) ++
      num16 (overrideField r.override Override.jump) ++ be16 r.revision := rfl

theorem mapByte_eq (e : Option Sin) :
    [mapByte e] = match e with | none => byte 255 | some i => byte i.number := by
  cases e <;> rfl

/-- The 19 bytes of the global record (R192). -/
theorem Global.image_bytes (g : Global) : globalBytes g.image =
    byte g.na ++ (Sin.all.flatMap fun i => byte (g.gains.get i)) ++
      (StringNo.all.flatMap fun n => [mapByte (g.map.get n)]) ++
      [BitVec.ofInt 8 g.offset] ++ byte g.grade.code ++ be16 g.revision := rfl

theorem requestedBytes_eq (v : Six Bank) :
    requestedBytes v = StringNo.all.map fun n => BitVec.ofNat 8 (v.get n).code := rfl

/-! ### The two reads (R103) -/

/-- Two bytes of which one is outside its codes do not name a bank and a string. -/
theorem not_named_of_outside {bank string : Byte} (h : 2 ≤ bank.toNat ∨ string = 0 ∨ 7 ≤ string.toNat) {k : Bank}
    {n : StringNo} (hk : Bank.ofCode? bank.toNat = some k) : StringNo.ofNumber? string.toNat ≠ some n := by
  obtain hbank | hstring := h
  · rw [bankOfCode?_eq_none _ hbank] at hk
    cases hk
  · rw [ofNumber?_eq_none _ hstring]
    nofun

section
variable (s : State)

theorem State.doReadProfile_invalid {bank string : Byte}
    (h : 2 ≤ bank.toNat ∨ string = 0 ∨ 7 ≤ string.toNat) :
    s.doReadProfile bank string = (s, refuse .invalid) := by
  unfold State.doReadProfile
  split
  · next hk hn => exact absurd hn (not_named_of_outside h hk)
  · rfl

theorem State.doReadProfile_eq (k : Bank) (n : StringNo) :
    s.doReadProfile (BitVec.ofNat 8 k.code) (BitVec.ofNat 8 n.number) =
      (s, ok (imageBytes (s.store.profile k n).image ++ byte (s.store.requested.get n).code)) := by
  rw [State.doReadProfile, bankOfCode?_code, ofNumber?_number]

theorem exec_readProfile (p : Port) (bank string : Byte) :
    exec (.readProfile p bank string) s = .next (s.frame p 2 fun t => t.doReadProfile bank string) := rfl

theorem exec_readGlobal (p : Port) :
    exec (.readGlobal p) s = .next (s.frame p 0 State.doReadGlobal) := rfl

end

/-- Settles O34: each read answers the stored record in its image, or INVALID, with the part as it was. -/
theorem readRecords : Obligations.ReadRecords := by
  intro p s hready b1 b2 bank
  have hbank (k : Bank) : bank k = BitVec.ofNat 8 k.code := by cases k <;> rfl
  refine ⟨fun x y hxy => ?_, fun k n => ?_, ?_⟩
  · rw [exec_readProfile, State.frame_of_ready 2 _ hready, State.doReadProfile_invalid s hxy]
    rfl
  · intro r held mark field image
    have himage : imageBytes r.image = image := by
      simp only [Profile.image_bytes, num16_eq, be16_eq, overrideMarks_eq, markOf_eq, ← List.append_assoc]
      rfl
    rw [exec_readProfile, State.frame_of_ready 2 _ hready, hbank, hbank, State.doReadProfile_eq, ← himage]
    exact ⟨imageBytes_length _, rfl⟩
  · intro g image
    have himage : globalBytes g.image = image := by
      have hgrade : g.grade.code = match g.grade with | .fast => 0 | .standard => 1 | .robust => 2 := by
        cases g.grade <;> rfl
      simp only [Global.image_bytes, be16_eq, mapByte_eq, hgrade]
      rfl
    have hrequested : requestedBytes s.store.requested =
        StringNo.all.map fun n => bank (s.store.requested.get n) := by
      simp only [requestedBytes_eq, hbank]
    rw [exec_readGlobal, State.frame_of_ready 0 _ hready, ← himage, ← hrequested]
    exact ⟨globalBytes_length _, rfl⟩

end Sys2Proof.Machine
end

section
/-!
PROOF. EDIT_PROFILE: the marks of the override part, the clamped record, and one equation for each outcome
(R101, R104, R106, R107).
-/

namespace Sys2Proof.Machine

/-! ### The override marks (R191) -/

/-- The two-bit mark at place j of the override marks byte: part, tol, onset_timeout, jump (R191). -/
def markAt (b : Byte) (j : Nat) : Nat := b.toNat / 4 ^ j % 4

/-- The marks of a byte in which each names present or absent. -/
def marksIn (b : Byte) : Marks :=
  ⟨decide (markAt b 0 = 1), decide (markAt b 1 = 1), decide (markAt b 2 = 1), decide (markAt b 3 = 1)⟩

/-- Some mark of the byte names neither present nor absent (R104 step 3). -/
def MarksFault (b : Byte) : Prop := 2 ≤ markAt b 0 ∨ 2 ≤ markAt b 1 ∨ 2 ≤ markAt b 2 ∨ 2 ≤ markAt b 3

theorem lt_two_of_markOf? {m : Nat} {v : Bool} (h : markOf? m = some v) : m < 2 := by
  unfold markOf? at h
  split at h
  · decide
  · decide
  · cases h

theorem markOf?_of_lt {m : Nat} (h : m < 2) : markOf? m = some (decide (m = 1)) := by
  interval_cases m <;> rfl

/-- A byte of marks is read place by place. -/
theorem marksOf?_eq_places (b : Byte) : marksOf? b =
    match markOf? (markAt b 0), markOf? (markAt b 1), markOf? (markAt b 2), markOf? (markAt b 3) with
    | some p, some t, some o, some j => some ⟨p, t, o, j⟩
    | _, _, _, _ => none := by
  have hzero : markAt b 0 = b.toNat % 4 := by rw [markAt, pow_zero, Nat.div_one]
  rw [hzero]
  rfl

theorem marksOf?_of_fault {b : Byte} (h : MarksFault b) : marksOf? b = none := by
  rw [marksOf?_eq_places]
  split
  · next hpart htol htimeout hjump =>
    have := lt_two_of_markOf? hpart
    have := lt_two_of_markOf? htol
    have := lt_two_of_markOf? htimeout
    have := lt_two_of_markOf? hjump
    simp only [MarksFault] at h
    omega
  · rfl

theorem marksOf?_of_not_fault {b : Byte} (h : ¬ MarksFault b) : marksOf? b = some (marksIn b) := by
  simp only [MarksFault, not_or, not_le] at h
  obtain ⟨hpart, htol, htimeout, hjump⟩ := h
  rw [marksOf?_eq_places, markOf?_of_lt hpart, markOf?_of_lt htol, markOf?_of_lt htimeout, markOf?_of_lt hjump]
  rfl

/-! ### The clamped record (R101, R104) -/

section
variable (m : ProfileImage)

theorem heldField_decide (P : Prop) [Decidable P] (lo hi x : Nat) :
    heldField (decide P) lo hi x = if P then some (max lo (min hi x)) else none := by
  by_cases h : P <;> simp [heldField, clampNat, h]

/-- The override part is stored when it is marked present with one of its fields (R101). -/
theorem overrideOf_marksIn : overrideOf (marksIn m.marks) m =
    if markAt m.marks 0 = 1 ∧ (markAt m.marks 1 = 1 ∨ markAt m.marks 2 = 1 ∨ markAt m.marks 3 = 1) then
      some ⟨if markAt m.marks 1 = 1 then some (max 2 (min 32 m.tol.toNat)) else none,
        if markAt m.marks 2 = 1 then some (max 480 (min 4800 m.onsetTimeout.toNat)) else none,
        if markAt m.marks 3 = 1 then some (max 60 (min 300 m.jump.toNat)) else none⟩
    else none := by
  simp only [overrideOf, marksIn, heldField_decide, Bool.and_eq_true, Bool.or_eq_true, decide_eq_true_eq, or_assoc]

/-- The clamped indication: a field that the record holds lies outside its range (R104, R107). -/
theorem profileClamped_marksIn_iff (revision : Half) :
    let r := clampedProfile (marksIn m.marks) m revision
    profileClamped (marksIn m.marks) m = true ↔
      r.windowLow ≠ m.windowLow.toNat ∨ r.windowHigh ≠ m.windowHigh.toNat ∨
      r.gateOn ≠ m.gateOn.toNat ∨ r.gateOff ≠ m.gateOff.toNat ∨ r.repick ≠ m.repick.toNat ∨
      r.sens ≠ m.sens.toNat ∨ r.decay ≠ m.decay.toNat ∨ r.releaseHold ≠ m.releaseHold.toNat ∨
      r.bleedThinner ≠ m.bleedThinner.toNat ∨ r.bleedThicker ≠ m.bleedThicker.toNat ∨
      (markAt m.marks 0 = 1 ∧ markAt m.marks 1 = 1 ∧ clampNat 2 32 m.tol.toNat ≠ m.tol.toNat) ∨
      (markAt m.marks 0 = 1 ∧ markAt m.marks 2 = 1 ∧
        clampNat 480 4800 m.onsetTimeout.toNat ≠ m.onsetTimeout.toNat) ∨
      (markAt m.marks 0 = 1 ∧ markAt m.marks 3 = 1 ∧ clampNat 60 300 m.jump.toNat ≠ m.jump.toNat) := by
  simp only [profileClamped, outside, clampedProfile, marksIn, Bool.or_eq_true, Bool.and_eq_true, bne_iff_ne,
    decide_eq_true_eq, or_assoc, and_assoc]

end

/-! ### The outcomes of the commit, in their order (R104, R106, R107) -/

section
variable (s : State) (p : Port) {base : Half} {m : ProfileImage}

theorem State.doEditProfile_name {bank string : Byte} (h : 2 ≤ bank.toNat ∨ string = 0 ∨ 7 ≤ string.toNat) :
    s.doEditProfile p bank string base m = (s, nameResponse) := by
  unfold State.doEditProfile
  split
  · next hk hn => exact absurd hn (not_named_of_outside h hk)
  · rfl

variable {k : Bank} {n : StringNo}

theorem State.doEditProfile_stale (hbase : base ≠ (s.store.profile k n).revision) :
    s.doEditProfile p (BitVec.ofNat 8 k.code) (BitVec.ofNat 8 n.number) base m =
      (s, staleResponse (s.store.profile k n).revision) := by
  simp only [State.doEditProfile, bankOfCode?_code, ofNumber?_number, if_pos hbase]

theorem State.doEditProfile_code (hbase : base = (s.store.profile k n).revision) (hmarks : MarksFault m.marks) :
    s.doEditProfile p (BitVec.ofNat 8 k.code) (BitVec.ofNat 8 n.number) base m =
      (s, faultResponse .code (s.store.profile k n).revision) := by
  simp only [State.doEditProfile, bankOfCode?_code, ofNumber?_number, if_neg (not_not.mpr hbase),
    marksOf?_of_fault hmarks]

variable {r : Profile}

theorem State.doEditProfile_window (hbase : base = (s.store.profile k n).revision) (hmarks : ¬ MarksFault m.marks)
    (hr : clampedProfile (marksIn m.marks) m ((s.store.profile k n).revision + 1) = r)
    (hwindow : r.windowHigh < r.windowLow) :
    s.doEditProfile p (BitVec.ofNat 8 k.code) (BitVec.ofNat 8 n.number) base m =
      (s, faultResponse .window (s.store.profile k n).revision) := by
  simp only [State.doEditProfile, bankOfCode?_code, ofNumber?_number, if_neg (not_not.mpr hbase),
    marksOf?_of_not_fault hmarks, hr, if_pos hwindow]

theorem State.doEditProfile_accepted (hbase : base = (s.store.profile k n).revision)
    (hmarks : ¬ MarksFault m.marks)
    (hr : clampedProfile (marksIn m.marks) m ((s.store.profile k n).revision + 1) = r)
    (hwindow : ¬ r.windowHigh < r.windowLow) :
    s.doEditProfile p (BitVec.ofNat 8 k.code) (BitVec.ofNat 8 n.number) base m =
      (((s.storeProfile k n r).raise p.other .peerCommit).learnProfileCommit k n,
        ok (bit (profileClamped (marksIn m.marks) m) ++ imageBytes r.image)) := by
  simp only [State.doEditProfile, bankOfCode?_code, ofNumber?_number, if_neg (not_not.mpr hbase),
    marksOf?_of_not_fault hmarks, hr, if_neg hwindow]

end

theorem exec_editProfile (p : Port) (bank string : Byte) (base : Half) (m : ProfileImage) (s : State) :
    exec (.editProfile p bank string base m) s =
      .next (s.frame p 27 fun t => t.doEditProfile p bank string base m) := rfl

/-- Settles O30: the outcomes of R104 one behind the other, the clamped record being the one that is stored. -/
theorem editProfile : Obligations.EditProfile := by
  intro p base m s hready
  refine ⟨fun bank string hname => ?_, fun k n => ?_⟩
  · rw [exec_editProfile, State.frame_of_ready 27 _ hready, State.doEditProfile_name s p hname]
    rfl
  · intro present lim mark held r changed
    have hr : clampedProfile (marksIn m.marks) m (present.revision + 1) = r :=
      congrArg (fun o => { r with override := o }) (overrideOf_marksIn m)
    have hchanged : profileClamped (marksIn m.marks) m = changed :=
      Bool.eq_iff_iff.mpr ((profileClamped_marksIn_iff m (present.revision + 1)).trans decide_eq_true_iff.symm)
    rw [exec_editProfile, State.frame_of_ready 27 _ hready]
    split
    · next hbase =>
      rw [State.doEditProfile_stale s p hbase]
      rfl
    next hbase =>
    rw [not_not] at hbase
    split
    · next hmarks =>
      rw [State.doEditProfile_code s p hbase hmarks]
      rfl
    next hmarks =>
    split
    · next hwindow =>
      rw [State.doEditProfile_window s p hbase hmarks hr hwindow]
      rfl
    · next hwindow =>
      rw [State.doEditProfile_accepted s p hbase hmarks hr hwindow, hchanged]
      rfl

end Sys2Proof.Machine
end

section
/-!
PROOF. EDIT_GLOBAL: the map and the grade of an image, the faults of its map, and one equation for each outcome
(R102, R104, R105, R106, R107).
-/

namespace Sys2Proof.Machine

/-! ### The map of an image (R105, R192) -/

/-- A map byte outside 0 to 7 that is not NONE (R105). -/
def MapByteFault (b : Byte) : Prop := 8 ≤ b.toNat ∧ b ≠ 0xFF

/-- The map that six bytes without a fault name (R192). -/
def mapNamed (m : Six Byte) : Six (Option Sin) :=
  Six.of fun n => if m.get n = 0xFF then none else Sin.ofNumber? (m.get n).toNat

theorem Sin.ofNumber?_eq_some_iff (x : Nat) (i : Sin) : Sin.ofNumber? x = some i ↔ x = i.number := by
  constructor
  · intro h
    unfold Sin.ofNumber? at h
    split at h <;> cases h <;> rfl
  · rintro rfl
    cases i <;> rfl

theorem Sin.exists_number_eq {x : Nat} (h : x < 8) : ∃ i : Sin, x = i.number := by
  interval_cases x
  exacts [⟨.sin0, rfl⟩, ⟨.sin1, rfl⟩, ⟨.sin2, rfl⟩, ⟨.sin3, rfl⟩, ⟨.sin4, rfl⟩, ⟨.sin5, rfl⟩, ⟨.sin6, rfl⟩,
    ⟨.sin7, rfl⟩]

theorem mapEntry?_of_fault {b : Byte} (h : MapByteFault b) : mapEntry? b = none := by
  obtain ⟨hlarge, hnone⟩ := h
  rw [mapEntry?, if_neg hnone, sinOfNumber?_eq_none b hlarge, Option.map_none]

theorem mapEntry?_of_not_fault {b : Byte} (h : ¬ MapByteFault b) :
    mapEntry? b = some (if b = 0xFF then none else Sin.ofNumber? b.toNat) := by
  by_cases hnone : b = 0xFF
  · rw [mapEntry?, if_pos hnone, if_pos hnone]
  · obtain ⟨i, hi⟩ := Sin.exists_number_eq (not_le.mp fun hlarge => h ⟨hlarge, hnone⟩)
    rw [mapEntry?, if_neg hnone, if_neg hnone, (Sin.ofNumber?_eq_some_iff _ i).mpr hi, Option.map_some]

theorem mapOf?_of_fault {m : Six Byte} {n : StringNo} (h : MapByteFault (m.get n)) : mapOf? m = none := by
  unfold mapOf?
  split
  · have hentry := mapEntry?_of_fault h
    cases n <;> simp_all [Six.get]
  · rfl

theorem mapOf?_of_not_fault {m : Six Byte} (h : ∀ n, ¬ MapByteFault (m.get n)) :
    mapOf? m = some (mapNamed m) := by
  have hentry (n : StringNo) := mapEntry?_of_not_fault (h n)
  simp only [mapOf?, show mapEntry? m.s1 = _ from hentry .s1, show mapEntry? m.s2 = _ from hentry .s2,
    show mapEntry? m.s3 = _ from hentry .s3, show mapEntry? m.s4 = _ from hentry .s4,
    show mapEntry? m.s5 = _ from hentry .s5, show mapEntry? m.s6 = _ from hentry .s6]
  rfl

/-- A map entry names the input whose number its byte is. -/
theorem mapNamed_eq_some_iff (m : Six Byte) (n : StringNo) (i : Sin) :
    (mapNamed m).get n = some i ↔ (m.get n).toNat = i.number := by
  rw [mapNamed, Six.get_of]
  split
  · next hnone =>
    rw [hnone]
    cases i <;> decide
  · exact Sin.ofNumber?_eq_some_iff _ i

/-- A byte that is no fault and not NONE names an input. -/
theorem exists_mapNamed {m : Six Byte} {n : StringNo} (h : ¬ MapByteFault (m.get n)) (hnone : m.get n ≠ 0xFF) :
    ∃ i, (mapNamed m).get n = some i := by
  obtain ⟨i, hi⟩ := Sin.exists_number_eq (not_le.mp fun hlarge => h ⟨hlarge, hnone⟩)
  exact ⟨i, (mapNamed_eq_some_iff m n i).mpr hi⟩

theorem ne_none_of_mapNamed {m : Six Byte} {n : StringNo} {i : Sin} (h : (mapNamed m).get n = some i) :
    m.get n ≠ 0xFF := by
  intro hnone
  rw [mapNamed, Six.get_of, if_pos hnone] at h
  cases h

/-! ### The faults of a map (R105) -/

theorem mem_namedInputs (m : Six (Option Sin)) (i : Sin) : i ∈ namedInputs m ↔ ∃ n, m.get n = some i := by
  simp [namedInputs_eq, StringNo.mem_all]

theorem nodup_namedInputs_iff (m : Six (Option Sin)) :
    (namedInputs m).Nodup ↔ ∀ n k, n ≠ k → ∀ i, m.get n = some i → m.get k ≠ some i := by
  have hall : StringNo.all.Nodup := by decide
  have : Std.Symm fun a b => ∀ x, m.get a = some x → ∀ y, m.get b = some y → x ≠ y :=
    ⟨fun a b hab x hx y hy => (hab y hy x hx).symm⟩
  rw [namedInputs_eq, List.Nodup, List.pairwise_filterMap, ← hall.pairwise_coe]
  constructor
  · exact fun h n k hne i hn hk => h n.mem_all k.mem_all hne i hn i hk rfl
  · rintro h n - k - hne i hn j hk rfl
    exact h n k hne i hn hk

/-- The inputs of a map hold a duplicate when two strings name one input. -/
theorem hasDuplicate_namedInputs_iff (m : Six (Option Sin)) : hasDuplicate (namedInputs m) = true ↔
    ∃ n k, n ≠ k ∧ ∃ i, m.get n = some i ∧ m.get k = some i := by
  rw [← Bool.not_eq_false, hasDuplicate_eq_false, nodup_namedInputs_iff]
  push Not
  rfl

section
variable {m : Six Byte} (hnofault : ∀ n, ¬ MapByteFault (m.get n))

include hnofault in
theorem hasDuplicate_mapNamed : hasDuplicate (namedInputs (mapNamed m)) = true ↔
    ∃ n k, n ≠ k ∧ m.get n = m.get k ∧ m.get n ≠ 0xFF := by
  rw [hasDuplicate_namedInputs_iff]
  refine exists_congr fun n => exists_congr fun k => and_congr_right fun _ => ⟨?_, ?_⟩
  · rintro ⟨i, hn, hk⟩
    refine ⟨BitVec.eq_of_toNat_eq ?_, ne_none_of_mapNamed hn⟩
    rw [(mapNamed_eq_some_iff m n i).mp hn, (mapNamed_eq_some_iff m k i).mp hk]
  · rintro ⟨heq, hnone⟩
    obtain ⟨i, hi⟩ := exists_mapNamed (hnofault n) hnone
    refine ⟨i, hi, ?_⟩
    rw [mapNamed_eq_some_iff] at hi ⊢
    rw [← heq, hi]

include hnofault in
theorem any_beyond_mapNamed (na : Nat) : ((namedInputs (mapNamed m)).any fun i => decide (na ≤ i.number)) = true ↔
    ∃ n, na ≤ (m.get n).toNat ∧ m.get n ≠ 0xFF := by
  simp only [List.any_eq_true, mem_namedInputs, decide_eq_true_eq]
  constructor
  · rintro ⟨i, ⟨n, hn⟩, hi⟩
    exact ⟨n, hi.trans_eq ((mapNamed_eq_some_iff m n i).mp hn).symm, ne_none_of_mapNamed hn⟩
  · rintro ⟨n, hn, hnone⟩
    obtain ⟨i, hi⟩ := exists_mapNamed (hnofault n) hnone
    exact ⟨i, ⟨n, hi⟩, hn.trans_eq ((mapNamed_eq_some_iff m n i).mp hi)⟩

end

/-! ### The grade of an image (R192) -/

theorem Grade.ofCode?_eq_none {x : Nat} (h : 3 ≤ x) : Grade.ofCode? x = none := by
  unfold Grade.ofCode?
  split
  · omega
  · omega
  · omega
  · rfl

theorem Grade.exists_ofCode? {x : Nat} (h : x < 3) : ∃ g, Grade.ofCode? x = some g ∧ g.code = x := by
  interval_cases x
  exacts [⟨.fast, rfl, rfl⟩, ⟨.standard, rfl, rfl⟩, ⟨.robust, rfl, rfl⟩]

/-! ### The outcomes of the commit, in their order (R104 to R107) -/

section
variable (s : State) (p : Port) {base : Half} {m : GlobalImage}

theorem State.doEditGlobal_stale (hbase : base ≠ s.store.global.revision) :
    s.doEditGlobal p base m = (s, staleResponse s.store.global.revision) := if_pos hbase

theorem State.doEditGlobal_code (hbase : base = s.store.global.revision)
    (hcode : 3 ≤ m.grade.toNat ∨ ∃ n, MapByteFault (m.map.get n)) :
    s.doEditGlobal p base m = (s, faultResponse .code s.store.global.revision) := by
  rw [State.doEditGlobal]
  dsimp only
  rw [if_neg (not_not.mpr hbase)]
  split
  · next map grade hmap hgrade =>
    obtain hlarge | ⟨n, hn⟩ := hcode
    · exact absurd (hgrade.symm.trans (Grade.ofCode?_eq_none hlarge)) nofun
    · exact absurd (hmap.symm.trans (mapOf?_of_fault hn)) nofun
  · rfl

variable {map : Six (Option Sin)} {grade : Grade}

theorem State.doEditGlobal_map (hbase : base = s.store.global.revision) (hmap : mapOf? m.map = some map)
    (hgrade : Grade.ofCode? m.grade.toNat = some grade) {f : CommitFault}
    (hfault : mapFault? (clampNat 6 8 m.na.toNat) map = some f) :
    s.doEditGlobal p base m = (s, faultResponse f s.store.global.revision) := by
  simp only [State.doEditGlobal, if_neg (not_not.mpr hbase), hmap, hgrade, clampedGlobal, hfault]

theorem State.doEditGlobal_accepted (hbase : base = s.store.global.revision) (hmap : mapOf? m.map = some map)
    (hgrade : Grade.ofCode? m.grade.toNat = some grade) (hfault : mapFault? (clampNat 6 8 m.na.toNat) map = none) :
    s.doEditGlobal p base m =
      ((s.commitGlobal (clampedGlobal map grade m (s.store.global.revision + 1))).raise p.other .peerCommit,
        ok (bit (globalClamped m) ++
          globalBytes (clampedGlobal map grade m (s.store.global.revision + 1)).image)) := by
  have hna (revision : Half) : mapFault? (clampedGlobal map grade m revision).na map = none := hfault
  simp only [State.doEditGlobal, if_neg (not_not.mpr hbase), hmap, hgrade, hna]

end

theorem State.commitGlobal_store (s : State) (g : Global) :
    (s.commitGlobal g).store = { s.store with global := g } := by
  simp [State.commitGlobal_eq]

/-- The clamped indication: NA, a gain code or the offset lies outside its range (R105, R107). -/
theorem globalClamped_iff (m : GlobalImage) : globalClamped m = true ↔
    clampNat 6 8 m.na.toNat ≠ m.na.toNat ∨ (Sin.all.any fun i => decide (3 < (m.gains.get i).toNat)) = true ∨
      clampInt (-50) 50 m.offset.toInt ≠ m.offset.toInt := by
  simp only [globalClamped, outside, Bool.or_eq_true, bne_iff_ne, or_assoc]

theorem exec_editGlobal (p : Port) (base : Half) (m : GlobalImage) (s : State) :
    exec (.editGlobal p base m) s = .next (s.frame p 21 fun t => t.doEditGlobal p base m) := rfl

/-- Settles O31: each refusal from the first test that fails, and the legal record of the image stored else. -/
theorem editGlobal : Obligations.EditGlobal := by
  intro p base m s hready present na refused code duplicate beyond
  rw [exec_editGlobal, State.frame_of_ready 21 _ hready]
  have hnames (hcode : ¬ code) (n : StringNo) : ¬ MapByteFault (m.map.get n) := fun hn => hcode (.inr ⟨n, hn⟩)
  have hduplicate (hcode : ¬ code) : hasDuplicate (namedInputs (mapNamed m.map)) = true ↔ duplicate :=
    hasDuplicate_mapNamed (hnames hcode)
  have hbeyond (hcode : ¬ code) :
      ((namedInputs (mapNamed m.map)).any fun i => decide (na ≤ i.number)) = true ↔ beyond :=
    any_beyond_mapNamed (hnames hcode) na
  have hgrade (hcode : ¬ code) : ∃ g, Grade.ofCode? m.grade.toNat = some g ∧ g.code = m.grade.toNat :=
    Grade.exists_ofCode? (not_le.mp fun hlarge => hcode (.inl hlarge))
  refine ⟨fun hbase => ?_, fun hbase hcode => ?_, fun hbase hcode hdup => ?_, fun hbase hcode hdup hbey => ?_,
    fun hbase hcode hdup hbey => ?_⟩
  · rw [State.doEditGlobal_stale s p hbase]
    rfl
  · rw [State.doEditGlobal_code s p hbase hcode]
    rfl
  · obtain ⟨grade, hgrade, -⟩ := hgrade hcode
    rw [State.doEditGlobal_map s p hbase (mapOf?_of_not_fault (hnames hcode)) hgrade
      (if_pos ((hduplicate hcode).mpr hdup))]
    rfl
  · obtain ⟨grade, hgrade, -⟩ := hgrade hcode
    have hfault : mapFault? na (mapNamed m.map) = some .mapRange := by
      rw [mapFault?, if_neg ((hduplicate hcode).not.mpr hdup), if_pos ((hbeyond hcode).mpr hbey)]
    rw [State.doEditGlobal_map s p hbase (mapOf?_of_not_fault (hnames hcode)) hgrade hfault]
    rfl
  · obtain ⟨grade, hgrade, hgradeCode⟩ := hgrade hcode
    have hfault : mapFault? na (mapNamed m.map) = none := by
      rw [mapFault?, if_neg ((hduplicate hcode).not.mpr hdup), if_neg ((hbeyond hcode).not.mpr hbey)]
    refine ⟨clampedGlobal (mapNamed m.map) grade m (present.revision + 1), rfl, fun i => Eight.get_of _ i,
      fun n => Six.get_of _ n, rfl, hgradeCode, rfl, clampedGlobal_legal grade m _ hfault,
      s.commitGlobal_store _, ?_⟩
    rw [State.doEditGlobal_accepted s p hbase (mapOf?_of_not_fault (hnames hcode)) hgrade hfault, bit,
      if_congr (globalClamped_iff m) rfl rfl]
    rfl

end Sys2Proof.Machine
end

section
/-!
PROOF. What a learn makes of the onsets and notices that the other blocks report to it (R122, R126, R127, R128).
-/

namespace Sys2Proof.Machine

theorem Target.mem_three_iff (t : Target) (n : StringNo) :
    n ∈ t.three ↔ n = t.string ∨ t.string.thinner? = some n ∨ t.string.thicker? = some n := by
  simp [Target.three]

/-- An open learn that fails ends with the target it has and the reason given (R120, R130). -/
theorem State.failLearn_eq_learnEnds {s : State} {t : Target} (h : s.learn.state.open? = some t)
    (r : LearnReason) : s.failLearn r = s.learnEnds t (LastResult.failure r) :=
  State.failLearn_of_open r h

/-- A learn is open while it is armed, and in its capture until the commit is handed (R124). -/
theorem LearnState.open?_eq_some_iff (l : LearnState) (t : Target) : l.open? = some t ↔
    (∃ ms, l = .armed t ms) ∨ ∃ count k, l = .capture t count k none := by
  cases l with
  | idle => simp [LearnState.open?]
  | armed g ms => simp [LearnState.open?]
  | capture g count k handed => cases handed <;> simp [LearnState.open?]

/-! ### Onsets (R122, R126) -/

section
variable {s : State} {t : Target}

theorem State.learnOnset_of_closed (h : s.learn.state.open? = none) (n : StringNo) : s.learnOnset n = s := by
  simp only [State.learnOnset, h]

theorem State.learnOnset_of_armed {ms : Nat} (h : s.learn.state = .armed t ms) : s.learnOnset t.string =
    { s with learn := { s.learn with state := .capture t 0 ⟨0, 0, 0⟩ none } } := by
  simp [State.learnOnset, LearnState.open?, h, t.mem_three_iff]

/-- The target's onsets in its capture change nothing (R124). -/
theorem State.learnOnset_of_capture {count : Nat} {k : Peaks} (h : s.learn.state = .capture t count k none) :
    s.learnOnset t.string = s := by
  simp [State.learnOnset, LearnState.open?, h, t.mem_three_iff]

theorem State.learnOnset_of_neighbour (h : s.learn.state.open? = some t) {n : StringNo} (hown : n ≠ t.string)
    (hnext : t.string.thinner? = some n ∨ t.string.thicker? = some n) : s.learnOnset n = s := by
  simp only [State.learnOnset, h, if_pos ((t.mem_three_iff n).mpr (.inr hnext)), if_neg hown]
  split
  · rfl
  · rfl

theorem State.learnOnset_of_stranger (h : s.learn.state.open? = some t) {n : StringNo} (hown : n ≠ t.string)
    (hnext : ¬ (t.string.thinner? = some n ∨ t.string.thicker? = some n)) :
    s.learnOnset n = s.learnEnds t (LastResult.failure .disturbed) := by
  have hfar : n ∉ t.three := fun hn => ((t.mem_three_iff n).mp hn).elim hown hnext
  simp only [State.learnOnset, h, if_neg hfar]
  exact State.failLearn_eq_learnEnds h .disturbed

end

theorem learnTakesOnsets : Claims.LearnTakesOnsets := by
  intro s n
  cases ho : s.learn.state.open? with
  | none => exact State.learnOnset_of_closed ho n
  | some t =>
    dsimp only
    by_cases hown : n = t.string
    · rw [if_pos hown, hown]
      obtain ⟨ms, hs⟩ | ⟨count, k, hs⟩ := (s.learn.state.open?_eq_some_iff t).mp ho
      · rw [State.learnOnset_of_armed hs, hs]
      · rw [State.learnOnset_of_capture hs, hs]
    by_cases hnext : t.string.thinner? = some n ∨ t.string.thicker? = some n
    · rw [if_neg hown, if_pos hnext, State.learnOnset_of_neighbour ho hown hnext]
    · rw [if_neg hown, if_neg hnext, State.learnOnset_of_stranger ho hown hnext]

/-! ### Commits (R128) -/

theorem State.learnProfileCommit_of_closed {s : State} (h : s.learn.state.open? = none) (k : Bank)
    (n : StringNo) : s.learnProfileCommit k n = s := by
  simp only [State.learnProfileCommit, h]

theorem State.learnProfileCommit_of_open {s : State} {t : Target} (h : s.learn.state.open? = some t) (k : Bank)
    (n : StringNo) : s.learnProfileCommit k n =
      if k = t.bank ∧ n = t.string then s.learnEnds t (LastResult.failure .stale) else s := by
  simp only [State.learnProfileCommit, h, State.failLearn_eq_learnEnds h]

theorem State.learnGlobalCommit_of_closed {s : State} (h : s.learn.state.open? = none) (old new : Global) :
    s.learnGlobalCommit old new = s := by
  simp only [State.learnGlobalCommit, h]

theorem State.learnGlobalCommit_of_open {s : State} {t : Target} (h : s.learn.state.open? = some t)
    (old new : Global) : s.learnGlobalCommit old new =
      if t.three.any (stringTouched old new) then s.learnEnds t (LastResult.failure .remap) else s := by
  simp only [State.learnGlobalCommit, h, State.failLearn_eq_learnEnds h]

/-- A string is touched by a new entry of the map, or by a new gain of the input that its entry names. -/
theorem stringTouched_iff (old new : Global) (n : StringNo) : stringTouched old new n = true ↔
    old.map.get n ≠ new.map.get n ∨ ∃ i, new.map.get n = some i ∧ old.gains.get i ≠ new.gains.get i := by
  rw [stringTouched, Bool.or_eq_true, bne_iff_ne]
  refine or_congr_right ?_
  cases new.map.get n with
  | none => simp
  | some i => simp

theorem Target.any_touched_iff (t : Target) (old new : Global) :
    t.three.any (stringTouched old new) = true ↔
      ∃ n, (n = t.string ∨ t.string.thinner? = some n ∨ t.string.thicker? = some n) ∧
        (old.map.get n ≠ new.map.get n ∨
          ∃ i, new.map.get n = some i ∧ old.gains.get i ≠ new.gains.get i) := by
  simp only [List.any_eq_true, t.mem_three_iff, stringTouched_iff]

theorem learnTakesNotices : Claims.LearnTakesNotices := by
  refine fun s => ⟨fun hclosed => ⟨State.learnProfileCommit_of_closed hclosed,
    State.learnGlobalCommit_of_closed hclosed, fun n => ?_⟩, fun t hopen =>
      ⟨State.learnProfileCommit_of_open hopen, fun n => ?_, fun old new => ⟨fun htouched => ?_, fun hkept => ?_⟩⟩⟩
  · exact State.learnDropped_of_other fun t ht => absurd (hclosed.symm.trans ht) nofun
  · split
    · next hown => exact hown ▸ State.learnDropped_of_target hopen
    · next hown => exact State.learnDropped_of_other fun g hg => Option.some.inj (hopen.symm.trans hg) ▸ hown
  · rw [State.learnGlobalCommit_of_open hopen, if_pos ((t.any_touched_iff old new).mpr htouched)]
  · have huntouched : ¬ t.three.any (stringTouched old new) = true := by
      rw [t.any_touched_iff]
      rintro ⟨n, hn, hmap | ⟨i, hi, hgain⟩⟩
      · exact hmap (hkept n hn).1
      · exact hgain ((hkept n hn).2 i hi)
    rw [State.learnGlobalCommit_of_open hopen, if_neg huntouched]

/-- Settles O36: the onsets by whose string sounds, and the notices by whether they concern the target. -/
theorem learnTakesReports : Obligations.LearnTakesReports := ⟨learnTakesOnsets, learnTakesNotices⟩

end Sys2Proof.Machine
end

section
/-!
PROOF. LEARN_START, LEARN_ABORT and LEARN_STATUS, with the bytes of the engine and of its last result (R121,
R129, R130, R188, R193).
-/

namespace Sys2Proof.Machine

theorem exec_learnStart (p : Port) (string bank : Byte) (base : Half) (s : State) :
    exec (.learnStart p string bank base) s =
      .next (s.frame p 4 fun t => t.doLearnStart p string bank base) := rfl

theorem exec_learnAbort (p : Port) (s : State) :
    exec (.learnAbort p) s = .next (s.frame p 0 fun t => t.doLearnAbort p) := rfl

theorem exec_learnStatus (p : Port) (s : State) :
    exec (.learnStatus p) s = .next (s.frame p 0 fun t => (t, ok t.learn.bytes)) := rfl

/-! ### The steps of LEARN_START (R121) -/

section
variable (s : State) (p : Port)

theorem State.doLearnStart_invalid {string bank : Byte} (base : Half)
    (h : 2 ≤ bank.toNat ∨ string = 0 ∨ 7 ≤ string.toNat) :
    s.doLearnStart p string bank base = (s, refuse .invalid) := by
  unfold State.doLearnStart
  split
  · next hn hk => exact absurd hn (not_named_of_outside h hk)
  · rfl

theorem State.doLearnStart_busy {t : Target} (h : s.learn.state.target = some t) (n : StringNo) (k : Bank)
    (base : Half) : s.doLearnStart p (BitVec.ofNat 8 n.number) (BitVec.ofNat 8 k.code) base =
      (s, { status := .busy, body := busyBody t s.learn.state }) := by
  simp only [State.doLearnStart, ofNumber?_number, bankOfCode?_code, h]

/-- With no learn in flight the steps of R121 behind BUSY follow. -/
theorem State.doLearnStart_of_idle (h : s.learn.state.target = none) (n : StringNo) (k : Bank) (base : Half) :
    s.doLearnStart p (BitVec.ofNat 8 n.number) (BitVec.ofNat 8 k.code) base =
      if s.link.state ≠ .active then (s, { status := .state, body := byte s.link.state.code })
      else if s.usable n = false then (s, refuse .invalid)
      else if base ≠ (s.store.profile k n).revision then (s, staleResponse (s.store.profile k n).revision)
      else (s.armLearn ⟨n, k, base, p⟩, ok (byte n.number ++ byte k.code ++ be16 base)) := by
  simp only [State.doLearnStart, ofNumber?_number, bankOfCode?_code, h]

end

theorem learnStart : Claims.LearnStart := by
  intro p base s hready
  refine ⟨fun string bank hname => ?_, fun n k => ?_⟩
  · rw [exec_learnStart, State.frame_of_ready 4 _ hready, s.doLearnStart_invalid p base hname]
    rfl
  · rw [exec_learnStart, State.frame_of_ready 4 _ hready]
    cases htarget : s.learn.state.target with
    | some t =>
      rw [s.doLearnStart_busy p htarget]
      rfl
    | none =>
      rw [s.doLearnStart_of_idle p htarget]
      dsimp only
      by_cases hlink : s.link.state ≠ .active
      · simp only [if_pos hlink, byte]
      by_cases husable : s.usable n = false
      · simp only [if_neg hlink, if_pos husable, refuse]
      by_cases hbase : base ≠ (s.store.profile k n).revision
      · simp only [if_neg hlink, if_neg husable, if_pos hbase, staleResponse]
      · simp only [if_neg hlink, if_neg husable, if_neg hbase]
        rfl

/-! ### The last result in bytes (R188, R193) -/

/-- The last result has 30 bytes, whatever of it is present (R193). -/
theorem LastResult.bytes_length (r : LastResult) : r.bytes.length = 30 := by
  have hbyte (x : Nat) : (byte x).length = 1 := rfl
  have htarget (x : Target × Stamp) : (byte x.1.string.number ++ byte x.1.bank.code ++ be16 x.1.base ++
      byte x.1.port.code ++ be24 x.2).length = 8 := rfl
  have hpeaks (x : Peaks) : (num16 x.own ++ num16 x.thinner ++ num16 x.thicker).length = 6 := rfl
  have hmeasured (x : Measured) :
      (num16 x.bleedThinner ++ num16 x.bleedThicker ++ byte x.sens).length = 5 := rfl
  have hrevision (x : Half) : (be16 x).length = 2 := rfl
  simp only [LastResult.bytes, List.length_append, hbyte, optional_map_length _ fun x : LearnReason => hbyte x.code,
    optional_map_length _ htarget, optional_map_length _ fun x : Port => hbyte x.code,
    optional_map_length _ hpeaks, optional_map_length _ hmeasured, optional_map_length _ hrevision]

theorem lastResultBytes : Claims.LastResultBytes := by
  intro r b1 b2 port group
  have hcode : r.code.code = match r.code with | .none => 0 | .done => 1 | .failed => 2 | .aborted => 3 := by
    cases r.code <;> rfl
  have hreason (x : LearnReason) : x.code = match x with
      | .timeout => 1 | .disturbed => 2 | .link => 3 | .remap => 4 | .stale => 5 | .weak => 6 := by
    cases x <;> rfl
  have hbank (k : Bank) : k.code = match k with | .a => 0 | .b => 1 := by cases k <;> rfl
  have hhalf : be16 = fun w => b2 w.toNat := funext be16_eq
  have hport (q : Port) : byte q.code = port q := by cases q <;> rfl
  have hgroup (length : Nat) (v : Option (List Byte)) : optional length v = group length v := by
    cases v <;> rfl
  refine ⟨r.bytes_length, ?_⟩
  simp only [LastResult.bytes, hgroup, hcode, hreason, hbank, hport, hhalf, num16_eq, be24_eq]
  rfl

/-! ### The engine in bytes (R193) -/

theorem LearnState.targetBytes_eq (l : LearnState) : l.targetBytes = l.target.map fun t =>
    byte t.string.number ++ byte t.bank.code ++ be16 t.base ++ byte t.port.code := by
  cases l <;> rfl

/-- Each group of LEARN_STATUS takes the same room in every learn state (R193). -/
theorem LearnState.groups_length (l : LearnState) : (optional 5 l.targetBytes).length = 6 ∧
    (optional 2 l.armBytes).length = 3 ∧ (optional 9 l.captureBytes).length = 10 := by
  cases l with
  | idle => exact ⟨rfl, rfl, rfl⟩
  | armed t ms => exact ⟨rfl, rfl, rfl⟩
  | capture t count k handed => exact ⟨rfl, rfl, rfl⟩

/-- The body of LEARN_STATUS has 50 bytes, whatever of the learn is present (R193). -/
theorem Learn.bytes_length (l : Learn) : l.bytes.length = 50 := by
  obtain ⟨htarget, harm, hcapture⟩ := l.state.groups_length
  have hcode : (byte l.state.code).length = 1 := rfl
  simp only [Learn.bytes, List.length_append, hcode, htarget, harm, hcapture, LastResult.bytes_length]

/-! ### LEARN_ABORT and LEARN_STATUS (R129, R130) -/

section
variable {s : State}

theorem State.doLearnAbort_of_open {t : Target} (h : s.learn.state.open? = some t) (p : Port) :
    s.doLearnAbort p =
      let r := s.learnEnds t { code := .aborted, reason := none, target := none, abortPort := some p,
                               peaks := none, measured := none, revision := none }
      (r, ok r.learn.last.bytes) := by
  simp only [State.doLearnAbort, h]
  rfl

theorem State.doLearnAbort_of_closed (h : s.learn.state.open? = none) (p : Port) : s.doLearnAbort p =
    (s, { status := .state, body := byte s.learn.state.code ++ s.learn.last.bytes }) := by
  simp only [State.doLearnAbort, h]

end

theorem learnAbortAndStatus : Claims.LearnAbortAndStatus := by
  intro p s hready b1 b2 body
  have hbody : s.learn.bytes = body := by
    have hcode : byte s.learn.state.code =
        b1 (match s.learn.state with | .idle => 0 | .armed .. => 1 | .capture .. => 2) := by
      cases s.learn.state <;> rfl
    have htarget : optional 5 s.learn.state.targetBytes = match s.learn.state.target with
        | none => [0, 0, 0, 0, 0, 0]
        | some t => 1 :: (b1 t.string.number ++ b1 t.bank.code ++ b2 t.base.toNat ++ b1 t.port.code) := by
      rw [LearnState.targetBytes_eq]
      simp only [be16_eq]
      cases s.learn.state.target <;> rfl
    have harm : optional 2 s.learn.state.armBytes = match s.learn.state with
        | .armed _ ms => 1 :: b2 ms
        | _ => [0, 0, 0] := by
      cases s.learn.state with
      | armed t ms => exact congrArg (1 :: ·) (num16_eq ms)
      | idle => rfl
      | capture t count k handed => rfl
    have hcapture : optional 9 s.learn.state.captureBytes = match s.learn.state with
        | .capture _ count k handed => 1 :: (b2 count ++ b2 k.own ++ b2 k.thinner ++ b2 k.thicker ++
            [if handed.isSome then 1 else 0])
        | _ => [0, 0, 0, 0, 0, 0, 0, 0, 0, 0] := by
      cases s.learn.state with
      | capture t count k handed => simp only [LearnState.captureBytes, num16_eq]; rfl
      | idle => rfl
      | armed t ms => rfl
    rw [Learn.bytes, hcode, htarget, harm]
    exact congrArg (_ ++ · ++ s.learn.last.bytes) hcapture
  refine ⟨hbody ▸ s.learn.bytes_length, ?_, ?_⟩
  · rw [exec_learnStatus, State.frame_of_ready 0 _ hready, hbody]
    rfl
  · rw [exec_learnAbort, State.frame_of_ready 0 _ hready]
    cases h : s.learn.state.open? with
    | none => rw [State.doLearnAbort_of_closed h]; rfl
    | some t => rw [State.doLearnAbort_of_open h]; rfl

/-- Settles O35: each command by its steps, and the two layouts group by group. -/
theorem learnCommands : Obligations.LearnCommands := ⟨learnStart, learnAbortAndStatus, lastResultBytes⟩

end Sys2Proof.Machine
end

section
/-!
PROOF. The bend value of an offset (R140).
-/

namespace Sys2Proof.Machine

/-- The size of a bend before its sign and its upper clamp: |b| limited to L, times 8192 over L, rounded (R140). -/
def bendSize (range : Nat) (b : Int) : Nat :=
  (2 * (min b.natAbs (range * 100) * 8192) + range * 100) / (2 * (range * 100))

theorem bendSize_le {range : Nat} (h : 0 < range) (b : Int) : bendSize range b ≤ 8192 := by
  refine Nat.lt_succ_iff.mp ((Nat.div_lt_iff_lt_mul (by omega)).mpr ?_)
  have hmin : min b.natAbs (range * 100) ≤ range * 100 := Nat.min_le_right _ _
  omega

theorem bendSize_zero {range : Nat} (h : 0 < range) : bendSize range 0 = 0 :=
  Nat.div_eq_of_lt (by simp; omega)

/-- From L on the size is the largest. -/
theorem bendSize_of_limit {range : Nat} (h : 0 < range) {b : Int} (hb : range * 100 ≤ b.natAbs) :
    bendSize range b = 8192 := by
  rw [bendSize, Nat.min_eq_right hb]
  exact Nat.div_eq_of_lt_le (by omega) (by omega)

/-- Rounding half away from zero rounds the size and keeps the sign (R1). -/
theorem roundHalfAway_natAbs (num : Int) (den : Nat) : roundHalfAway num den =
    if 0 ≤ num then (((2 * num.natAbs + den) / (2 * den) : Nat) : Int)
    else -(((2 * num.natAbs + den) / (2 * den) : Nat) : Int) := by
  unfold roundHalfAway
  split
  · next h =>
    have hnum : (num.natAbs : Int) = num := Int.natAbs_of_nonneg h
    push_cast
    rw [← hnum]
    simp
  · next h =>
    have hnum : (num.natAbs : Int) = -num := Int.ofNat_natAbs_of_nonpos (by omega)
    push_cast [hnum]
    rfl

theorem bendValue_eq {range : Nat} (h : 0 < range) (b : Int) : bendValue range b =
    if 0 ≤ b then min 8191 (bendSize range b : Int) else -(bendSize range b : Int) := by
  have hsize := bendSize_le h b
  have hclamped : (clampInt (-(range * 100 : Nat)) (range * 100 : Nat) b * 8192).natAbs =
      min b.natAbs (range * 100) * 8192 := by
    unfold clampInt
    omega
  have hsign : 0 ≤ clampInt (-(range * 100 : Nat)) (range * 100 : Nat) b * 8192 ↔ 0 ≤ b := by
    unfold clampInt
    omega
  rw [bendValue, roundHalfAway_natAbs, hclamped, ← bendSize]
  simp only [hsign]
  unfold clampInt
  split <;> omega

/-- A bend value lies in its range, whatever the bend range (R140). -/
theorem bendValue_bounds (range : Nat) (b : Int) : -8192 ≤ bendValue range b ∧ bendValue range b ≤ 8191 := by
  unfold bendValue clampInt
  omega

/-- Settles O38: the value is the rounded size with its sign, and the ends are those of the size. -/
theorem bendValueOfOffset : Obligations.BendValue := by
  intro range b h limit size
  have hvalue := bendValue_eq h b
  refine ⟨hvalue, (bendValue_bounds range b).1, (bendValue_bounds range b).2, decide_eq_true_iff, ?_, ?_, ?_⟩
  · rw [bendValue_eq h, bendSize_zero h]
    rfl
  · intro hb
    rw [hvalue, bendSize_of_limit h (by omega), if_pos (by omega)]
    rfl
  · intro hb
    rw [hvalue, bendSize_of_limit h (by omega), if_neg (by omega)]
    rfl

end Sys2Proof.Machine
end

section
/-!
PROOF. Closing a packet, storing a record, the filter table, the forming of a cue and the resync sequence, each as
the exact state that follows (R134, R150, R151, R153, R157, R158, R160, R163, R165, R166).
-/

namespace Sys2Proof.Machine

theorem State.updStream_congr {s : State} {p : Port} {f g : Stream → Stream}
    (h : f (s.streams.get p) = g (s.streams.get p)) : s.updStream p f = s.updStream p g := by
  rw [State.updStream, h, State.updStream]

theorem State.updStream_updStream (s : State) (p : Port) (f g : Stream → Stream) :
    (s.updStream p f).updStream p g = s.updStream p fun t => g (f t) := by
  simp [State.updStream]

theorem State.updStream_id (s : State) (p : Port) : (s.updStream p fun t => t) = s := by
  simp [State.updStream]

theorem State.raise_updStream (s : State) (p q : Port) (f : Flag) (g : Stream → Stream) :
    (s.raise p f).updStream q g = (s.updStream q g).raise p f := rfl

/-! ### The ring (R156, R157) -/

theorem Stream.openCount_of_none {t : Stream} (h : t.opened = none) : t.openCount = 0 := by
  simp [Stream.openCount, h]

theorem Stream.openCount_of_some {t : Stream} {k : OpenPacket} (h : t.opened = some k) : t.openCount = 1 := by
  simp [Stream.openCount, h]

theorem Stream.openCount_eq (t : Stream) : t.openCount = if t.opened = none then 0 else 1 := by
  cases h : t.opened <;> simp [Stream.openCount, h]

theorem Stream.hasFree_iff (t : Stream) :
    t.hasFree = true ↔ t.closed.length + t.openCount < t.settings.ringLength := by
  rw [Stream.hasFree, decide_eq_true_iff, Stream.freeCount]
  omega

/-- With no packet OPEN nothing is closed (R157). -/
theorem State.closeOpen_of_none {s : State} {p : Port} (h : (s.streams.get p).opened = none) (cause : CloseCause) :
    s.closeOpen p cause = s := by
  simp [State.closeOpen, h]

/-- The OPEN packet becomes the newest CLOSED one, with the next number, and PKT is raised (R157). -/
theorem State.closeOpen_of_some {s : State} {p : Port} {k : OpenPacket}
    (h : (s.streams.get p).opened = some k) (cause : CloseCause) : s.closeOpen p cause =
      (s.updStream p fun t => { t with
        opened := none, nextSeq := t.nextSeq + 1, closed := t.closed ++ [k.close t.nextSeq cause] }).raise p .pkt := by
  simp [State.closeOpen, h]

/-- Behind a close no packet is OPEN. -/
theorem State.closeOpen_opened (s : State) (p : Port) (cause : CloseCause) :
    ((s.closeOpen p cause).streams.get p).opened = none := by
  cases h : (s.streams.get p).opened with
  | none => rwa [State.closeOpen_of_none h]
  | some k => simp [State.closeOpen_of_some h]

/-- A close leaves the state and the settings of the stream. -/
theorem State.closeOpen_stream (s : State) (p : Port) (cause : CloseCause) :
    ((s.closeOpen p cause).streams.get p).state = (s.streams.get p).state ∧
    ((s.closeOpen p cause).streams.get p).settings = (s.streams.get p).settings := by
  cases h : (s.streams.get p).opened with
  | none => simp [State.closeOpen_of_none h]
  | some k => simp [State.closeOpen_of_some h]

/-! ### Storing a record (R134, R158, R163) -/

/-- No packet is OPEN and none is FREE: a record finds no room (R163). -/
def Stream.Exhausted (t : Stream) : Prop := t.opened = none ∧ t.settings.ringLength ≤ t.closed.length

/-- The packet a record goes into: the OPEN one, or an empty one under the limit in force (R158). -/
def Stream.target (t : Stream) : OpenPacket := t.opened.getD ⟨[], t.settings.packetLimit, 0⟩

/-- The stream with a record put into its packet, before a close (R134, R158, R159). -/
def Stream.stored (t : Stream) (r : Record) : Stream :=
  { t with
    opened := some ⟨t.target.records ++ [r], t.target.limit, t.settings.idleTimeout⟩
    openPos := if t.opened = none then (t.openPos + 1) % t.settings.ringLength else t.openPos
    view := viewAfter t.view r }

theorem Stream.exhausted_iff (t : Stream) : (t.opened.isNone && !t.hasFree) = true ↔ t.Exhausted := by
  rw [Bool.and_eq_true, Option.isNone_iff_eq_none, Bool.not_eq_true', ← Bool.not_eq_true, Stream.hasFree_iff]
  refine and_congr_right fun h => ?_
  rw [Stream.openCount_of_none h]
  omega

theorem State.storeRecord_of_exhausted {s : State} {p : Port} (h : (s.streams.get p).Exhausted) (r : Record) :
    s.storeRecord p r = (s.overflowLost p, false) := by
  rw [State.storeRecord, if_pos ((Stream.exhausted_iff _).mpr h)]

theorem State.overflowLost_eq (s : State) (p : Port) : s.overflowLost p = (s.updStream p fun t => { t with
    state := .overflow, gap := 1, lost := countUp t.lost }).raise p .lost := by
  simp [State.overflowLost, State.countLost, State.updStream_updStream]

theorem State.storeRecord_of_room {s : State} {p : Port} (h : ¬ (s.streams.get p).Exhausted) (r : Record) :
    s.storeRecord p r = ((s.updStream p fun t => t.stored r).closeIfFull p, true) := by
  rw [State.storeRecord, if_neg (mt (Stream.exhausted_iff _).mp h)]
  cases ho : (s.streams.get p).opened with
  | none =>
    simp only [Option.isNone_none, if_true, State.updStream_updStream]
    rw [State.updStream_congr (g := fun t => t.stored r)]
    simp [Stream.append, Stream.openNext, Stream.stored, Stream.target, ho]
  | some k =>
    simp only [Option.isNone_some, Bool.false_eq_true, if_false]
    rw [State.updStream_congr (g := fun t => t.stored r)]
    simp [Stream.append, Stream.stored, Stream.target, ho]

theorem Stream.isFull_stored (t : Stream) (r : Record) :
    (t.stored r).isFull = decide (t.target.limit ≤ t.target.records.length + 1) := by
  simp [Stream.isFull, Stream.stored]

/-- The view by the table of R134, entry by entry of the record's string. -/
theorem viewAfter_eq (view : Six ViewEntry) (r : Record) : viewAfter view r = match r.string with
    | none => view
    | some n =>
      let v := view.get n
      match r.payload with
      | .noteOn note _ _ _ => view.set n ⟨some note, 0, v.level⟩
      | .noteOff _ _ => view.set n ⟨none, 0, 0⟩
      | .bend value _ => view.set n ⟨v.note, value, v.level⟩
      | .level lv => view.set n ⟨v.note, v.bend, lv⟩
      | .snapshot note value lv => view.set n ⟨note, value, lv⟩
      | _ => view := by
  unfold viewAfter
  cases r.string with
  | none => rfl
  | some n =>
    cases r.payload with
    | gap | cue | aux | notice => exact Six.set_get _ _
    | _ => rfl

/-- Settles O39: exhausted, or stored with a close of the packet that is full. -/
theorem recordsAreStored : Obligations.RecordsAreStored := by
  intro s p r t
  split
  · next h =>
    rw [State.storeRecord_of_exhausted h, State.overflowLost_eq]
    rfl
  · next h =>
    have hview := viewAfter_eq (s.streams.get p).view r
    rw [State.storeRecord_of_room h, State.closeIfFull, State.updStream_same, Stream.isFull_stored]
    simp only [decide_eq_true_eq]
    rw [State.updStream_congr (f := fun t => t.stored r)]
    · rfl
    · rw [Stream.stored, hview]
      rfl

/-! ### The filter table and the latch slot (R150, R151, R160) -/

theorem FilterEntry.matchesRecord_eq (e : FilterEntry) (r : Record) : e.matchesRecord r =
    ((match r.payload with
        | .noteOn .. => e.kinds.getLsbD 0
        | .noteOff .. => e.kinds.getLsbD 1
        | .bend .. => e.kinds.getLsbD 2
        | .level .. => e.kinds.getLsbD 3
        | .aux .. => e.kinds.getLsbD 4
        | .notice .. => e.kinds.getLsbD 5
        | .cue .. => e.kinds.getLsbD 6
        | _ => false) &&
      (match r.string with
        | none => true
        | some n => e.strings.getLsbD (n.number - 1))) := by
  unfold FilterEntry.matchesRecord
  cases r.payload <;> rfl

theorem decideRecord_eq (table : List FilterEntry) (r : Record) :
    decideRecord table r = ((table.find? fun e => e.matchesRecord r).map FilterEntry.action).getD .pass := by
  unfold decideRecord
  cases table.find? fun e => e.matchesRecord r <;> rfl

/-- A record is placed in an empty slot (R151). -/
theorem State.latchRecord_of_empty {s : State} {p : Port} (h : (s.streams.get p).latch = none) (r : Record) :
    s.latchRecord p r = (s.updStream p fun t => { t with latch := some r }).raise p .latch := by
  simp [State.latchRecord, h]

/-- A record overwrites the one in the slot (R151). -/
theorem State.latchRecord_of_full {s : State} {p : Port} (h : (s.streams.get p).latch ≠ none) (r : Record) :
    s.latchRecord p r = ((s.updStream p fun t => { t with
      latch := some r, overruns := countUp t.overruns }).raise p .latch).raise p .latchOvr := by
  simp [State.latchRecord, Option.isSome_iff_ne_none.mpr h]

/-- Settles O40: the four actions of the entry that decides. -/
theorem filterTable : Obligations.FilterTable := by
  intro s p r t hits
  have hfind : (t.filter.find? fun e => e.matchesRecord r) = t.filter.find? hits := by
    congr 1
    exact funext fun e => e.matchesRecord_eq r
  rw [State.passFilter, decideRecord_eq, hfind]
  cases (t.filter.find? hits).map FilterEntry.action with
  | none => rfl
  | some a =>
    cases a with
    | pass | drop => rfl
    | flush =>
      simp only [Option.getD_some]
      split
      · next hstored => rw [hstored]
      · rfl
    | latch =>
      simp only [Option.getD_some]
      by_cases hl : t.latch = none
      · rw [State.latchRecord_of_empty hl, if_pos hl]
        exact congrArg (fun u => (State.raise u p .latch, false)) (State.updStream_congr (by simp [t, hl]))
      · rw [State.latchRecord_of_full hl, if_neg hl]
        exact congrArg (fun u => ((State.raise u p .latch).raise p .latchOvr, false))
          (State.updStream_congr (by simp [t, hl, countUp]))

/-! ### Cues (R152, R153) -/

/-- Room for a cue, in the form of the statements (R152). -/
theorem Stream.hasRoom_iff (t : Stream) : t.hasRoom = true ↔
    (∃ k, t.opened = some k ∧ k.records.length < k.limit) ∨
      t.closed.length + (if t.opened = none then 0 else 1) < t.settings.ringLength := by
  rw [← Stream.openCount_eq, ← Stream.hasFree_iff, Stream.hasRoom]
  cases h : t.opened <;> simp

theorem State.formCue_of_none {s : State} {p : Port} (h : (s.streams.get p).cue = none) : s.formCue p = s := by
  simp [State.formCue, h]

/-- Outside RUNNING, or without room, a cue waits (R153). -/
theorem State.formCue_of_waits {s : State} {p : Port}
    (h : (s.streams.get p).state ≠ .running ∨ (s.streams.get p).hasRoom = false) : s.formCue p = s := by
  unfold State.formCue
  dsimp only
  split
  · rfl
  · rw [if_neg]
    rcases h with h | h <;> simp [h]

theorem State.formCue_of_room {s : State} {p : Port} {c : Cue} (hc : (s.streams.get p).cue = some c)
    (hs : (s.streams.get p).state = .running) (hr : (s.streams.get p).hasRoom = true) : s.formCue p =
      let q := (s.updStream p fun t => { t with cue := none }).passFilter p
        ⟨none, s.siu.stamp, .cue c.source c.code⟩
      if q.2 then q.1.raise c.source .cuePlaced else q.1 := by
  simp [State.formCue, hc, hs, hr]

theorem cuesAreFormed : Claims.CuesAreFormed := by
  intro s p t room
  have hroom : t.hasRoom = true ↔ room := t.hasRoom_iff
  refine ⟨State.formCue_of_none, fun h => State.formCue_of_waits ?_, fun c hc hs hr => ?_⟩
  · exact h.imp_right fun hr => Bool.eq_false_iff.mpr (mt hroom.mp hr)
  · exact State.formCue_of_room hc hs (hroom.mpr hr)

/-! ### The resync sequence (R165, R166) -/

/-- Records put into an OPEN packet one by one stand behind those in it; its timer restarts, if any came. -/
theorem Stream.foldl_append (l : List Record) : ∀ (t : Stream) (k : OpenPacket), t.opened = some k →
    ∃ left, l.foldl Stream.append t =
      { t with opened := some ⟨k.records ++ l, k.limit, left⟩, view := l.foldl viewAfter t.view } := by
  induction l with
  | nil =>
    intro t k hk
    refine ⟨k.idleLeft, ?_⟩
    rw [List.append_nil]
    exact congrArg (fun o => { t with opened := o }) hk
  | cons r l ih =>
    intro t k hk
    obtain ⟨left, hl⟩ := ih { t with
      opened := some ⟨k.records ++ [r], k.limit, t.settings.idleTimeout⟩, view := viewAfter t.view r } _ rfl
    have happend : t.append r = { t with
        opened := some ⟨k.records ++ [r], k.limit, t.settings.idleTimeout⟩, view := viewAfter t.view r } := by
      simp [Stream.append, hk]
    refine ⟨left, ?_⟩
    rw [List.foldl_cons, happend, hl, List.append_assoc]
    rfl

/-- The port terms of every string's context at a stream (R140). -/
def State.portTermsAt (s : State) (p : Port) (n : StringNo) : ViewEntry :=
  portTerms (s.streams.get p).settings (s.trackers.get n)

theorem State.portTermsAt_congr {s t : State} {p : Port}
    (hs : (t.streams.get p).settings = (s.streams.get p).settings) (ht : t.trackers = s.trackers) :
    t.portTermsAt p = s.portTermsAt p := by
  unfold State.portTermsAt
  rw [hs, ht]

theorem State.resyncRecords_eq (s : State) (p : Port) (lost : Nat) : s.resyncRecords p lost =
    ⟨none, s.siu.stamp, .gap lost⟩ :: StringNo.all.map fun n => ⟨some n, s.siu.stamp,
      .snapshot (s.portTermsAt p n).note (s.portTermsAt p n).bend (s.portTermsAt p n).level⟩ := rfl

/-- Behind the seven records every entry is its string's port terms (R134, R165). -/
theorem State.resyncRecords_view (s : State) (p : Port) (lost : Nat) (view : Six ViewEntry) :
    (s.resyncRecords p lost).foldl viewAfter view = Six.of (s.portTermsAt p) := rfl

/-- A resync sequence that is written into a packet with records `before` under a limit (R165, R166). -/
def State.resynced (s : State) (p : Port) (lost : Nat) (before : List Record) (limit pos : Nat) : State :=
  (s.updStream p fun t => { t with
    state := .running, gap := 0, opened := none, openPos := pos, nextSeq := t.nextSeq + 1
    view := Six.of (s.portTermsAt p)
    closed := t.closed ++ [OpenPacket.close ⟨before ++ s.resyncRecords p lost, limit, 0⟩ t.nextSeq .resync] }).raise
      p .pkt

theorem State.putResync_of_some {s : State} {p : Port} {k : OpenPacket} (h : (s.streams.get p).opened = some k)
    (lost : Nat) : s.putResync p lost =
      (s.resynced p lost k.records k.limit (s.streams.get p).openPos).formCue p := by
  obtain ⟨left, hl⟩ := Stream.foldl_append (s.resyncRecords p lost) _ k h
  rw [State.resyncRecords_view] at hl
  have hclosed : ∀ f : Stream → Stream, f (s.streams.get p) = { s.streams.get p with
      state := .running, gap := 0, opened := some ⟨k.records ++ s.resyncRecords p lost, k.limit, left⟩
      view := Six.of (s.portTermsAt p) } →
      (s.updStream p f).closeOpen p .resync = s.resynced p lost k.records k.limit (s.streams.get p).openPos := by
    intro f hf
    rw [State.closeOpen_of_some (k := ⟨k.records ++ s.resyncRecords p lost, k.limit, left⟩) (by simp [hf]),
      State.updStream_updStream, State.resynced, State.updStream_congr]
    simp [hf, OpenPacket.close]
  rw [State.putResync]
  dsimp only
  rw [hclosed _ (by rw [hl])]

/-- The OPEN packet has room for the sequence (R166). -/
theorem State.resync_of_room {s : State} {p : Port} {k : OpenPacket} (h : (s.streams.get p).opened = some k)
    (hk : k.records.length + 7 ≤ k.limit) (lost : Nat) : s.resync p lost =
      (s.resynced p lost k.records k.limit (s.streams.get p).openPos).formCue p := by
  have hroom : (s.streams.get p).roomForResync = true := by
    rw [Stream.roomForResync, h]
    exact decide_eq_true hk
  rw [State.resync, if_pos hroom, State.putResync_of_some h]

/-- Without an OPEN packet the sequence goes into the next FREE one (R166). -/
theorem State.resync_of_free {s : State} {p : Port} (h : (s.streams.get p).opened = none)
    (hf : (s.streams.get p).closed.length < (s.streams.get p).settings.ringLength) (lost : Nat) :
    s.resync p lost = (s.resynced p lost [] (s.streams.get p).settings.packetLimit
      (((s.streams.get p).openPos + 1) % (s.streams.get p).settings.ringLength)).formCue p := by
  have hroom : (s.streams.get p).roomForResync = false := by simp [Stream.roomForResync, h]
  have hfree : (s.streams.get p).hasFree = true := by
    rwa [Stream.hasFree_iff, Stream.openCount_of_none h]
  have hopened : ((s.updStream p Stream.openNext).streams.get p).opened =
      some ⟨[], (s.streams.get p).settings.packetLimit, (s.streams.get p).settings.idleTimeout⟩ := by
    simp [Stream.openNext]
  have hsame : (s.updStream p Stream.openNext).resynced p lost [] (s.streams.get p).settings.packetLimit
      ((s.updStream p Stream.openNext).streams.get p).openPos =
      s.resynced p lost [] (s.streams.get p).settings.packetLimit
        (((s.streams.get p).openPos + 1) % (s.streams.get p).settings.ringLength) := by
    have hterms : (s.updStream p Stream.openNext).portTermsAt p = s.portTermsAt p :=
      State.portTermsAt_congr (by simp [Stream.openNext]) (by simp)
    simp [State.resynced, State.updStream_updStream, State.resyncRecords_eq, hterms, Stream.openNext]
  rw [State.resync, hroom, State.closeOpen_of_none h]
  simp only [Bool.false_eq_true, if_false, hfree, if_true]
  rw [State.putResync_of_some hopened, hsame]

/-- With no FREE packet nothing of it is written (R163, R166). -/
theorem State.resync_of_exhausted {s : State} {p : Port} (h : (s.streams.get p).Exhausted) (lost : Nat) :
    s.resync p lost = s.updStream p fun t => { t with state := .overflow, gap := 0 } := by
  obtain ⟨ho, hlen⟩ := h
  have hroom : (s.streams.get p).roomForResync = false := by simp [Stream.roomForResync, ho]
  have hfree : ¬ (s.streams.get p).hasFree = true := by
    rw [Stream.hasFree_iff, Stream.openCount_of_none ho]
    omega
  rw [State.resync, hroom, State.closeOpen_of_none ho]
  simp only [Bool.false_eq_true, if_false, hfree]

/-- An OPEN packet without room for the sequence is closed FULL before it (R166). -/
theorem State.resync_of_no_room {s : State} {p : Port} (h : (s.streams.get p).roomForResync = false) (lost : Nat) :
    s.resync p lost = (s.closeOpen p .full).resync p lost := by
  have hclosed := s.closeOpen_opened p .full
  have hroom : ((s.closeOpen p .full).streams.get p).roomForResync = false := by
    simp [Stream.roomForResync, hclosed]
  rw [State.resync, State.resync, h, hroom, State.closeOpen_of_none hclosed]
  rfl

/-- The port terms of a string's context, field by field (R140). -/
theorem State.portTermsAt_eq (s : State) (p : Port) (n : StringNo) : s.portTermsAt p n =
    match (s.trackers.get n).note with
    | none => ⟨none, 0, 0⟩
    | some h =>
      let note := if (s.streams.get p).settings.bendMode = .smooth then h.anchor else ((h.pitch + 50) / 100).toNat
      ⟨some note, bendValue (s.streams.get p).settings.bendRange (h.pitch - 100 * note),
        min 127 ((s.trackers.get n).e / 256)⟩ := by
  unfold State.portTermsAt portTerms
  cases (s.trackers.get n).note with
  | none => rfl
  | some h => cases (s.streams.get p).settings.bendMode <;> rfl

/-- Settles O47: into the OPEN packet, into the next FREE one, or into none. -/
theorem resyncSequence : Obligations.ResyncSequence := by
  intro s p lost room u t terms records packet
  have hterms (n : StringNo) : terms n = u.portTermsAt p n := by
    have hstrings : u.trackers = s.trackers := by
      simp only [u]
      split <;> simp
    have heq := u.portTermsAt_eq p n
    rw [hstrings] at heq
    exact heq.symm
  have hstamp : u.siu.stamp = s.siu.stamp := by
    simp only [u]
    split <;> simp
  have hrecords : records = (t.opened.map OpenPacket.records).getD [] ++ u.resyncRecords p lost := by
    rw [State.resyncRecords_eq, hstamp, ← funext hterms]
  have hwritten (before : List Record) (limit pos : Nat)
      (hb : before = (t.opened.map OpenPacket.records).getD [])
      (hl : limit = (t.opened.map OpenPacket.limit).getD t.settings.packetLimit)
      (hpos : pos = if t.opened = none then (t.openPos + 1) % t.settings.ringLength else t.openPos) :
      u.resynced p lost before limit pos = (u.updStream p fun k => { k with
        state := .running, gap := 0, opened := none, nextSeq := t.nextSeq + 1
        openPos := if t.opened = none then (t.openPos + 1) % t.settings.ringLength else t.openPos
        view := Six.of terms, closed := t.closed ++ [packet] }).raise p .pkt := by
    subst hb hl hpos
    rw [State.resynced, funext hterms]
    refine congrArg (fun v => State.raise v p .pkt) (State.updStream_congr ?_)
    simp only [packet, hrecords]
    rfl
  by_cases hroom : room = true
  · have hu : u = s := if_pos hroom
    obtain ⟨k, hk, hlimit⟩ : ∃ k, t.opened = some k ∧ k.records.length + 7 ≤ k.limit := by
      simp only [t, hu]
      cases hopen : (s.streams.get p).opened with
      | none => simp [room, hopen] at hroom
      | some k => exact ⟨k, rfl, by simpa [room, hopen] using hroom⟩
    rw [if_neg (by simp [hroom]), ← hwritten k.records k.limit t.openPos (by simp [hk]) (by simp [hk]) (by simp [hk]),
      ← hu]
    exact State.resync_of_room hk hlimit lost
  · have hu : u = s.closeOpen p .full := if_neg hroom
    have ho : t.opened = none := by
      simp only [t, hu]
      exact s.closeOpen_opened p .full
    have hmoved : s.resync p lost = u.resync p lost :=
      hu ▸ State.resync_of_no_room (Bool.eq_false_iff.mpr hroom) lost
    rw [hmoved]
    by_cases hlen : t.settings.ringLength ≤ t.closed.length
    · rw [if_pos ⟨Bool.eq_false_iff.mpr hroom, hlen⟩]
      exact State.resync_of_exhausted ⟨ho, hlen⟩ lost
    · rw [if_neg (fun h => hlen h.2), ← hwritten [] t.settings.packetLimit
        ((t.openPos + 1) % t.settings.ringLength) (by simp [ho]) (by simp [ho]) (if_pos ho).symm]
      exact State.resync_of_free ho (Nat.not_le.mp hlen) lost

end Sys2Proof.Machine
end

section
/-!
PROOF. The records that a tracker's publication forms, and what a stream makes of the publication it takes (R132,
R135, R141 to R148, R153, R164).
-/

namespace Sys2Proof.Machine

/-! ### The records of a tracker's publication (R135, R141 to R147) -/

theorem bendRecord_eq (n : StringNo) (stamp : Stamp) (pitch : Int) (t : Stream) : bendRecord n stamp pitch t =
    (t.view.get n).note.bind fun k =>
      let v := bendValue t.settings.bendRange (pitch - 100 * k)
      let b := (t.view.get n).bend
      if t.settings.bendStep ≤ (v - b).natAbs ∨ ((v = -8192 ∨ v = 0 ∨ v = 8191) ∧ v ≠ b) then
        some ⟨some n, stamp, .bend v (bendSaturated t.settings.bendRange (pitch - 100 * k))⟩
      else none := by
  unfold bendRecord
  dsimp only
  cases (t.view.get n).note <;> rfl

/-- The level test, with the distance of the levels taken apart (R146). -/
theorem levelRecord_eq (n : StringNo) (stamp : Stamp) (lv : Nat) (t : Stream) : levelRecord n stamp lv t =
    let v := t.view.get n
    if v.note ≠ none ∧ (v.level + t.settings.levelStep ≤ lv ∨ lv + t.settings.levelStep ≤ v.level ∨
      (lv = 0 ∧ v.level ≠ 0)) then some ⟨some n, stamp, .level lv⟩ else none := by
  unfold levelRecord
  dsimp only
  congr 1
  rw [Option.isSome_iff_ne_none]
  refine propext (and_congr_right fun _ => ?_)
  omega

theorem stepTest_iff (st : Settings) (pitch : Int) (note : Option Nat) : stepTest st pitch note = true ↔
    st.bendMode = .step ∧ ∃ k, note = some k ∧ 50 + st.stepHyst < (pitch - 100 * k).natAbs := by
  cases hmode : st.bendMode with
  | smooth => simp [stepTest, hmode]
  | step =>
    cases note with
    | none => simp [stepTest, hmode]
    | some k =>
      simp only [stepTest, hmode, true_and, Option.some.injEq, exists_eq_left']
      exact decide_eq_true_iff

/-- Under RETRIGGER the view's note is ended first (R141, R144). -/
theorem State.emitLegato_eq (s : State) (p : Port) (n : StringNo) (stamp : Stamp) (note velocity : Nat)
    (kind : OnKind) : s.emitLegato p n stamp note velocity kind =
      (if (s.streams.get p).settings.legatoPolicy = .retrigger then s.emit p (offRecord n stamp .legato)
        else s).emit p (onRecord n stamp note velocity kind) := by
  unfold State.emitLegato
  cases (s.streams.get p).settings.legatoPolicy <;> rfl

/-- Settles O41: kind by kind, through what each record is formed from. -/
theorem trackerPublicationsFormRecords : Obligations.TrackerPublicationsFormRecords := by
  intro s p n stamp m lv on off bend again t
  have hbend : bendRecord n stamp m.pitch = bend := funext fun t => bendRecord_eq n stamp m.pitch t
  have hlegato (note : Nat) (kind : OnKind) :
      s.emitLegato p n stamp note m.velocity kind = (again t s).emit p (on note kind) :=
    s.emitLegato_eq p n stamp note m.velocity kind
  refine ⟨?_, ?_, ?_, ?_, fun cause => ?_⟩
  · rw [← hbend]
    rfl
  · rw [← hbend, ← hlegato]
    rfl
  · rw [← hbend, ← hlegato]
    simp only [← stepTest_iff]
    rfl
  · rw [← funext fun t => levelRecord_eq n stamp lv t]
    rfl
  · cases cause <;> rfl

/-! ### Publications that are taken (R132, R148, R164) -/

theorem exec_publicationTaken (p : Port) (m : Maker) (s : State) :
    exec (.publicationTaken p m) s = .next (s.takePublication p m) := rfl

theorem takeFirst_of_none {m : Maker} {l : List Waiting} (h : ∀ w ∈ l, w.maker ≠ m) : takeFirst m l = none := by
  induction l with
  | nil => rfl
  | cons w l ih =>
    obtain ⟨hw, hl⟩ := List.forall_mem_cons.mp h
    rw [takeFirst, if_neg hw, ih hl]
    rfl

/-- The oldest of the maker's publications is taken from among the others. -/
theorem takeFirst_of_split {m : Maker} {before after : List Waiting} {w : Waiting} (hw : w.maker = m)
    (h : ∀ v ∈ before, v.maker ≠ m) : takeFirst m (before ++ w :: after) = some (w, before ++ after) := by
  induction before with
  | nil => exact if_pos hw
  | cons v l ih =>
    obtain ⟨hv, hl⟩ := List.forall_mem_cons.mp h
    rw [List.cons_append, takeFirst, if_neg hv, ih hl]
    rfl

/-- What waits for another one: it was made in a handling, and something made before that handling waits. -/
theorem mayTake_iff (l : List Waiting) (w : Waiting) : mayTake l w = true ↔
    ¬ (w.phase % 2 = 1 ∧ (l.any fun v => decide (v.phase < w.phase)) = true) := by
  simp only [mayTake, Bool.or_eq_true, beq_iff_eq, List.all_eq_true, List.any_eq_true, decide_eq_true_eq, not_and,
    not_exists, not_lt]
  rw [← Nat.mod_two_ne_one, ← imp_iff_not_or]

theorem State.takePublication_of_none {s : State} {p : Port} {m : Maker}
    (h : ∀ w ∈ (s.streams.get p).waiting, w.maker ≠ m) : s.takePublication p m = s := by
  simp [State.takePublication, takeFirst_of_none h]

theorem State.takePublication_of_split {s : State} {p : Port} {m : Maker} {before after : List Waiting} {w : Waiting}
    (hl : (s.streams.get p).waiting = before ++ w :: after) (hw : w.maker = m) (h : ∀ v ∈ before, v.maker ≠ m) :
    s.takePublication p m = if mayTake (s.streams.get p).waiting w then
      (s.updStream p fun t => { t with waiting := before ++ after }).handlePublication p w else s := by
  simp [State.takePublication, hl, takeFirst_of_split hw h]

/-- A publication that OVERFLOW misses (R164). -/
theorem State.countLost_countUp (s : State) (p : Port) : s.countLost p (countUp (s.streams.get p).gap) =
    (s.updStream p fun t => { t with
      gap := min 65535 (t.gap + 1), lost := min 65535 (t.lost + 1) }).raise p .lost :=
  congrArg (fun u => State.raise u p .lost) (State.updStream_congr rfl)

/-- Settles O42: the queue of the maker, then the states of the stream, then what a record does. -/
theorem publicationTaken : Obligations.PublicationTaken := by
  intro p m s t
  refine ⟨fun h => ?_, fun before after w hl hw h => ?_, fun _ _ _ => rfl, fun _ _ _ _ => rfl, fun r => rfl⟩
  · rw [exec_publicationTaken, State.takePublication_of_none h]
  · intro u
    have hstate : (u.streams.get p).state = t.state := by simp [u, t]
    rw [exec_publicationTaken, State.takePublication_of_split hl hw h]
    by_cases htake : mayTake t.waiting w = true
    · rw [if_pos htake, if_neg ((mayTake_iff _ _).mp htake), State.handlePublication, hstate]
      cases t.state with
      | overflow => exact congrArg Host.Outcome.next (u.countLost_countUp p)
      | running | held | stopped => rfl
    · rw [if_neg htake, if_pos (not_not.mp (mt (mayTake_iff _ _).mpr htake))]

end Sys2Proof.Machine
end

section
/-!
PROOF. The reads of a stream and the bytes of a record (R132, R139, R151, R174, R189, R193).
-/

namespace Sys2Proof.Machine

/-! ### A record in bytes (R132, R189) -/

theorem int16_eq (v : Int) :
    int16 v = [BitVec.ofNat 8 ((v % 65536).toNat / 256), BitVec.ofNat 8 (v % 65536).toNat] := by
  rw [int16, be16_eq, BitVec.toNat_ofInt]
  rfl

theorem Payload.bytes_length (k : Payload) : k.bytes.length = 4 := by
  cases k with
  | noteOn note velocity kind replaced => cases replaced <;> rfl
  | snapshot note bend level => cases note <;> rfl
  | _ => rfl

theorem recordBytes : Claims.RecordBytes := by
  intro r b1 b2 signed note kindAndPayload string
  have hnote (m : Option Nat) : noteByte m = note m := by cases m <;> rfl
  have hpayload : kindAndPayload = (r.payload.kindCode, r.payload.bytes) := by
    obtain ⟨string, stamp, payload⟩ := r
    cases payload with
    | noteOn m v kind replaced =>
      simp only [kindAndPayload, Payload.bytes, hnote]
      cases kind <;> rfl
    | noteOff m cause => cases cause <;> rfl
    | bend v saturated => simp only [kindAndPayload, Payload.bytes, int16_eq]; rfl
    | snapshot m v level => simp only [kindAndPayload, Payload.bytes, hnote, int16_eq]; rfl
    | gap lost => simp only [kindAndPayload, Payload.bytes, num16_eq]; rfl
    | cue source code =>
      simp only [kindAndPayload, Payload.bytes, be16_eq]
      cases source <;> rfl
    | aux x v => cases x <;> rfl
    | notice code first second => cases code <;> rfl
    | level l => rfl
  have hstring : r.stringNumber = string := rfl
  refine ⟨?_, ?_⟩
  · simp only [Record.bytes, List.length_append, Payload.bytes_length]
    rfl
  · rw [hpayload, Record.bytes, be24_eq, hstring, List.append_assoc, List.append_assoc, List.append_assoc]
    rfl

/-! ### A stream in bytes (R193) -/

/-- The settings, field by field (R181). -/
theorem Settings.image_bytes (t : Settings) : settingsBytes t.image =
    byte t.bendMode.code ++ byte t.bendRange ++ byte t.stepHyst ++ num16 t.bendStep ++ byte t.levelStep ++
      byte t.legatoPolicy.code ++ num16 t.idleTimeout ++ byte t.packetLimit ++ byte t.ringLength := rfl

theorem ViewEntry.bytes_length (v : ViewEntry) : v.bytes.length = 5 := by
  cases h : v.note <;> simp [ViewEntry.bytes, h, optional, byte, int16, be16]

/-- READ_STREAM has 60 bytes, whatever of the stream is present (R139, R193). -/
theorem Stream.bytes_length (t : Stream) : t.bytes.length = 60 := by
  have hbyte (x : Nat) : (byte x).length = 1 := rfl
  have hcue (c : Cue) : (byte c.source.code ++ be16 c.code).length = 3 := rfl
  have hopened (k : OpenPacket) : (byte k.records.length ++ num16 k.idleLeft).length = 3 := rfl
  simp only [Stream.bytes, Six.toList, List.flatMap_cons, List.flatMap_nil, List.length_append, List.length_nil,
    settingsBytes_length, ViewEntry.bytes_length, optional_map_length _ fun r : Record => hbyte r.payload.kindCode,
    optional_map_length _ hcue, optional_map_length _ fun k : ClosedPacket => List.length_singleton (a := k.seq),
    optional_map_length _ hopened, hbyte, num16_length, List.length_singleton]

/-! ### The reads (R139, R151, R174) -/

theorem exec_readLatch (p : Port) (s : State) :
    exec (.readLatch p) s = .next (s.frame p 0 fun t => t.doReadLatch p) := rfl

theorem exec_readPortCounters (p : Port) (s : State) :
    exec (.readPortCounters p) s = .next (s.frame p 0 fun t => t.doReadPortCounters p) := rfl

theorem exec_clearPortCounters (p : Port) (s : State) :
    exec (.clearPortCounters p) s = .next (s.frame p 0 fun t => t.doClearPortCounters p) := rfl

theorem exec_readStream (p : Port) (s : State) :
    exec (.readStream p) s = .next (s.frame p 0 fun t => (t, ok (t.streams.get p).bytes)) := rfl

theorem streamReadCommands : Claims.StreamReadCommands := by
  intro p s h t b1 b2 opens body
  have hbody : t.bytes = body := by
    have hmode : t.settings.bendMode.code = match t.settings.bendMode with | .smooth => 0 | .step => 1 := by
      cases t.settings.bendMode <;> rfl
    have hpolicy : t.settings.legatoPolicy.code =
        match t.settings.legatoPolicy with | .legato => 0 | .retrigger => 1 := by
      cases t.settings.legatoPolicy <;> rfl
    have hentry (v : ViewEntry) : v.bytes = (match v.note with
        | none => ([0, 0] : List Byte)
        | some m => 1 :: b1 m) ++ b2 (v.bend % 65536).toNat ++ b1 v.level := by
      rw [ViewEntry.bytes, int16_eq]
      cases v.note <;> rfl
    have hview : t.view.toList.flatMap ViewEntry.bytes = StringNo.all.flatMap fun n =>
        (match (t.view.get n).note with
        | none => ([0, 0] : List Byte)
        | some m => 1 :: b1 m) ++ b2 ((t.view.get n).bend % 65536).toNat ++ b1 (t.view.get n).level := by
      rw [funext hentry]
      rfl
    have hlatch : optional 1 (t.latch.map fun r => byte r.payload.kindCode) = match t.latch with
        | none => ([0, 0] : List Byte)
        | some r => 1 :: b1 (match r.payload with
            | .noteOn .. => 1 | .noteOff .. => 2 | .bend .. => 3 | .level .. => 4 | .snapshot .. => 5
            | .gap .. => 6 | .cue .. => 7 | .aux .. => 8 | .notice .. => 9) := by
      cases t.latch with
      | none => rfl
      | some r => cases hr : r.payload <;> simp [optional, hr, Payload.kindCode, byte, b1]
    have hcue : optional 3 (t.cue.map fun c => byte c.source.code ++ be16 c.code) = match t.cue with
        | none => ([0, 0, 0, 0] : List Byte)
        | some c => 1 :: (b1 (match c.source with | .a => 0 | .b => 1) ++ b2 c.code.toNat) := by
      cases t.cue with
      | none => rfl
      | some c =>
        simp only [optional, Option.map_some, be16_eq]
        cases c.source <;> rfl
    have hstate : t.state.code = match t.state with
        | .stopped => 0 | .running => 1 | .held => 2 | .overflow => 3 := by
      cases t.state <;> rfl
    have hclosed : optional 1 (t.closed.head?.map fun k => [k.seq]) = match t.closed with
        | [] => ([0, 0] : List Byte)
        | k :: _ => [1, k.seq] := by
      cases t.closed <;> rfl
    have hopened : optional 3 (t.opened.map fun k => byte k.records.length ++ num16 k.idleLeft) =
        match t.opened with
        | none => ([0, 0, 0, 0] : List Byte)
        | some k => 1 :: (b1 k.records.length ++ b2 k.idleLeft) := by
      cases t.opened with
      | none => rfl
      | some k => exact congrArg (fun l => 1 :: (byte k.records.length ++ l)) (num16_eq _)
    have hopens : t.openCount = opens := t.openCount_eq
    unfold Stream.bytes
    rw [Settings.image_bytes, hview, hlatch, hcue, hclosed, hopened, hmode, hpolicy, hstate, Stream.freeCount, hopens]
    simp only [num16_eq]
    rfl
  refine ⟨?_, ?_, ?_, hbody ▸ t.bytes_length, ?_⟩
  · rw [exec_readLatch, State.frame_of_ready 0 _ h, State.doReadLatch]
    cases t.latch <;> rfl
  · rw [exec_readPortCounters, State.frame_of_ready 0 _ h, State.doReadPortCounters]
    dsimp only [ok]
    rw [num16_eq, num16_eq]
  · rw [exec_clearPortCounters, State.frame_of_ready 0 _ h]
    rfl
  · rw [exec_readStream, State.frame_of_ready 0 _ h, ← hbody]
    rfl

/-- Settles O44: the reads, and the record in bytes. -/
theorem streamReads : Obligations.StreamReads := ⟨streamReadCommands, recordBytes⟩

end Sys2Proof.Machine
end

section
/-!
PROOF. SET_STREAM, SET_FILTER and READ_FILTER (R136, R137, R138, R149, R156).
-/

namespace Sys2Proof.Machine

/-! ### Codes and clamps of a settings image (R136, R137) -/

theorem exec_setStream (p : Port) (m : SettingsImage) (s : State) :
    exec (.setStream p m) s = .next (s.frame p 11 fun t => t.doSetStream p m) := rfl

theorem BendMode.ofCode?_eq_none {n : Nat} (h : 2 ≤ n) : BendMode.ofCode? n = none := by
  unfold BendMode.ofCode?
  split
  · omega
  · omega
  · rfl

theorem LegatoPolicy.ofCode?_eq_none {n : Nat} (h : 2 ≤ n) : LegatoPolicy.ofCode? n = none := by
  unfold LegatoPolicy.ofCode?
  split
  · omega
  · omega
  · rfl

/-- A byte below 2 is 0 or 1. -/
theorem byte_eq_of_lt_two {x : Byte} (h : x.toNat < 2) : x = 0 ∨ x = 1 := by
  rcases Nat.lt_succ_iff_lt_or_eq.mp h with h | h
  · exact .inl (BitVec.eq_of_toNat_eq (by simpa using h))
  · exact .inr (BitVec.eq_of_toNat_eq h)

theorem BendMode.ofCode?_of_lt {x : Byte} (h : x.toNat < 2) :
    BendMode.ofCode? x.toNat = some (if x = 0 then .smooth else .step) := by
  rcases byte_eq_of_lt_two h with rfl | rfl <;> rfl

theorem LegatoPolicy.ofCode?_of_lt {x : Byte} (h : x.toNat < 2) :
    LegatoPolicy.ofCode? x.toNat = some (if x = 0 then .legato else .retrigger) := by
  rcases byte_eq_of_lt_two h with rfl | rfl <;> rfl

theorem BendMode.code_of_ofCode? {x : Byte} {b : BendMode} (h : BendMode.ofCode? x.toNat = some b) :
    BitVec.ofNat 8 b.code = x := by
  by_cases hx : x.toNat < 2
  · rcases byte_eq_of_lt_two hx with rfl | rfl <;> cases h <;> rfl
  · rw [BendMode.ofCode?_eq_none (Nat.not_lt.mp hx)] at h
    cases h

theorem LegatoPolicy.code_of_ofCode? {x : Byte} {l : LegatoPolicy} (h : LegatoPolicy.ofCode? x.toNat = some l) :
    BitVec.ofNat 8 l.code = x := by
  by_cases hx : x.toNat < 2
  · rcases byte_eq_of_lt_two hx with rfl | rfl <;> cases h <;> rfl
  · rw [LegatoPolicy.ofCode?_eq_none (Nat.not_lt.mp hx)] at h
    cases h

/-- A number is sent back as it came when it is the one that came. -/
theorem ofNat_eq_iff {w n : Nat} (h : n < 2 ^ w) (x : BitVec w) : BitVec.ofNat w n = x ↔ n = x.toNat := by
  rw [← BitVec.toNat_inj, BitVec.toNat_ofNat, Nat.mod_eq_of_lt h]

theorem outside_eq_false_iff (lo hi n : Nat) : outside lo hi n = false ↔ clampNat lo hi n = n := by
  simp [outside]

theorem limitOf_bounds (n : Nat) : 8 ≤ limitOf n ∧ limitOf n ≤ 32 := by
  unfold limitOf
  split <;> omega

/-- The settings come back as they were sent exactly when the clamp step replaced none of them (R137). -/
theorem image_clampedSettings_iff {b : BendMode} {l : LegatoPolicy} {m : SettingsImage}
    (hb : BendMode.ofCode? m.bendMode.toNat = some b) (hl : LegatoPolicy.ofCode? m.legatoPolicy.toNat = some l) :
    (clampedSettings b l m).image = m ↔ settingsClamped m = false := by
  have hbyte (lo hi : Nat) (x : Byte) (hle : lo ≤ hi := by decide) (hw : hi < 256 := by decide) :
      BitVec.ofNat 8 (clampNat lo hi x.toNat) = x ↔ clampNat lo hi x.toNat = x.toNat :=
    ofNat_eq_iff ((clampNat_bounds hle _).2.trans_lt hw) x
  have hhalf (lo hi : Nat) (x : Half) (hle : lo ≤ hi := by decide) (hw : hi < 65536 := by decide) :
      BitVec.ofNat 16 (clampNat lo hi x.toNat) = x ↔ clampNat lo hi x.toNat = x.toNat :=
    ofNat_eq_iff ((clampNat_bounds hle _).2.trans_lt hw) x
  have hlimit : BitVec.ofNat 8 (limitOf m.packetLimit.toNat) = m.packetLimit ↔
      limitOf m.packetLimit.toNat = m.packetLimit.toNat :=
    ofNat_eq_iff ((limitOf_bounds _).2.trans_lt (by decide)) _
  obtain ⟨mode, range, hyst, bend, level, policy, idle, limit, ring⟩ := m
  simp only [settingsClamped, Bool.or_eq_false_iff, outside_eq_false_iff, bne_eq_false_iff_eq, Settings.image,
    clampedSettings, SettingsImage.mk.injEq, BendMode.code_of_ofCode? hb, LegatoPolicy.code_of_ofCode? hl,
    hbyte 1 24, hbyte 0 40, hhalf 1 512, hbyte 1 32, hhalf 48 48000, hbyte 2 16, hlimit, true_and, and_assoc]

/-! ### SET_STREAM (R137, R138) -/

theorem State.doSetStream_invalid (s : State) (p : Port) {m : SettingsImage}
    (h : 2 ≤ m.bendMode.toNat ∨ 2 ≤ m.legatoPolicy.toNat) : s.doSetStream p m = (s, refuse .invalid) := by
  unfold State.doSetStream
  dsimp only
  split
  · next hb hl =>
    rcases h with h | h
    · rw [BendMode.ofCode?_eq_none h] at hb
      cases hb
    · rw [LegatoPolicy.ofCode?_eq_none h] at hl
      cases hl
  · rfl

/-- The two settings that lay out the ring differ (R137). -/
def Settings.LayoutDiffers (old new : Settings) : Prop :=
  new.packetLimit ≠ old.packetLimit ∨ new.ringLength ≠ old.ringLength

theorem termsChanged_iff (old new : Settings) : termsChanged old new = true ↔
    new.bendMode ≠ old.bendMode ∨ new.bendRange ≠ old.bendRange ∨ new.stepHyst ≠ old.stepHyst := by
  simp only [termsChanged, Bool.or_eq_true, bne_iff_ne, or_assoc, ne_comm]

section
variable {s : State} {p : Port} {m : SettingsImage} {b : BendMode} {l : LegatoPolicy}

theorem State.doSetStream_refused (hb : BendMode.ofCode? m.bendMode.toNat = some b)
    (hl : LegatoPolicy.ofCode? m.legatoPolicy.toNat = some l)
    (h : (s.streams.get p).settings.LayoutDiffers (clampedSettings b l m))
    (hs : (s.streams.get p).state ≠ .stopped ∨ (s.streams.get p).closed ≠ []) :
    s.doSetStream p m = streamRefusal s p := by
  simp only [State.doSetStream, hb, hl]
  rw [if_pos ⟨h, not_and_or.mpr hs⟩]

theorem State.doSetStream_taken (hb : BendMode.ofCode? m.bendMode.toNat = some b)
    (hl : LegatoPolicy.ofCode? m.legatoPolicy.toNat = some l)
    (h : ¬ ((s.streams.get p).settings.LayoutDiffers (clampedSettings b l m) ∧
      ((s.streams.get p).state ≠ .stopped ∨ (s.streams.get p).closed ≠ []))) :
    s.doSetStream p m =
      let u := s.updStream p fun t => t.withSettings (clampedSettings b l m)
      (if (s.streams.get p).state = .running ∧
          termsChanged (s.streams.get p).settings (clampedSettings b l m) = true then u.resync p 0 else u,
        ok (bit (settingsClamped m) ++ settingsBytes (clampedSettings b l m).image)) := by
  rw [← not_and_or] at h
  simp only [State.doSetStream, hb, hl]
  exact if_neg h

end

theorem setStream : Claims.SetStream := by
  intro p m s h t
  refine ⟨fun hbad => ?_, fun hm hp => ?_⟩
  · rw [exec_setStream, State.frame_of_ready 11 _ h, State.doSetStream_invalid s p hbad]
    rfl
  · intro lim st layout terms u
    have hb := BendMode.ofCode?_of_lt hm
    have hl := LegatoPolicy.ofCode?_of_lt hp
    have hst : clampedSettings (if m.bendMode = 0 then .smooth else .step)
        (if m.legatoPolicy = 0 then .legato else .retrigger) m = st := rfl
    have hresync : (if t.state = .running ∧ termsChanged t.settings st = true then u.resync p 0 else u) =
        if t.state = .running ∧ terms then u.resync p 0 else u :=
      if_congr (and_congr_right fun _ => termsChanged_iff _ _) rfl rfl
    have hbit : bit (settingsClamped m) = [if st.image = m then 0 else 1] := by
      have himage := image_clampedSettings_iff hb hl
      rw [hst] at himage
      simp only [himage]
      cases settingsClamped m <;> rfl
    rw [exec_setStream, State.frame_of_ready 11 _ h]
    by_cases hrefuse : layout ∧ (t.state ≠ .stopped ∨ t.closed ≠ [])
    · rw [if_pos hrefuse, State.doSetStream_refused hb hl hrefuse.1 hrefuse.2]
      rfl
    · rw [if_neg hrefuse, State.doSetStream_taken hb hl hrefuse, hst, hbit, ← hresync]
      rfl

/-! ### SET_FILTER and READ_FILTER (R149) -/

theorem exec_setFilter (p : Port) (l : List FilterImage) (s : State) :
    exec (.setFilter p l) s = .next (s.frame p (1 + 3 * l.length) fun t => t.doSetFilter p l) := rfl

theorem exec_readFilter (p : Port) (s : State) :
    exec (.readFilter p) s = .next (s.frame p 0 fun t => t.doReadFilter p) := rfl

/-- An entry with a kind, a string or an action that does not exist, or a LATCH of NOTE_ON, NOTE_OFF or BEND
(R149). -/
def BadEntry (e : FilterImage) : Prop :=
  128 ≤ e.kinds.toNat ∨ 64 ≤ e.strings.toNat ∨ 4 ≤ e.action.toNat ∨ (e.action = 2 ∧ e.kinds.toNat % 8 ≠ 0)

/-- The numbers of a stored entry, which are those of the bytes that gave it. -/
def FilterEntry.numbers (e : FilterEntry) : Nat × Nat × Nat := (e.kinds.toNat, e.strings.toNat, e.action.code)

theorem FilterAction.ofCode?_eq_none {n : Nat} (h : 4 ≤ n) : FilterAction.ofCode? n = none := by
  unfold FilterAction.ofCode?
  split <;> first | omega | rfl

theorem FilterAction.exists_ofCode? {n : Nat} (h : n < 4) :
    ∃ a, FilterAction.ofCode? n = some a ∧ a.code = n ∧ (a = .latch ↔ n = 2) := by
  match n, h with
  | 0, _ => exact ⟨.pass, rfl, rfl, by decide⟩
  | 1, _ => exact ⟨.flush, rfl, rfl, by decide⟩
  | 2, _ => exact ⟨.latch, rfl, rfl, by decide⟩
  | 3, _ => exact ⟨.drop, rfl, rfl, by decide⟩

theorem byte_eq_two_iff (x : Byte) : x = 2 ↔ x.toNat = 2 := BitVec.toNat_inj.symm

theorem filterEntry?_of_bad {e : FilterImage} (h : BadEntry e) : filterEntry? e = none := by
  unfold filterEntry?
  by_cases ha : e.action.toNat < 4
  · obtain ⟨a, hcode, -, hlatch⟩ := FilterAction.exists_ofCode? ha
    rw [hcode]
    dsimp only
    split
    · rfl
    · next hranges =>
      rw [not_or] at hranges
      rcases h with h | h | h | ⟨h, hkinds⟩
      · exact absurd h hranges.1
      · exact absurd h hranges.2
      · exact absurd ha (Nat.not_lt.mpr h)
      · rw [if_pos ⟨hlatch.mpr ((byte_eq_two_iff _).mp h), hkinds⟩]
  · rw [FilterAction.ofCode?_eq_none (Nat.not_lt.mp ha)]

theorem filterEntry?_of_not_bad {e : FilterImage} (h : ¬ BadEntry e) : ∃ f, filterEntry? e = some f ∧
    f.numbers = (e.kinds.toNat, e.strings.toNat, e.action.toNat) := by
  simp only [BadEntry, not_or] at h
  obtain ⟨hkinds, hstrings, haction, hlatch⟩ := h
  obtain ⟨a, ha, hcode, hlatches⟩ := FilterAction.exists_ofCode? (Nat.not_le.mp haction)
  refine ⟨{ kinds := e.kinds.setWidth 7, strings := e.strings.setWidth 6, action := a }, ?_, ?_⟩
  · have hranges : ¬ (128 ≤ e.kinds.toNat ∨ 64 ≤ e.strings.toNat) := not_or.mpr ⟨hkinds, hstrings⟩
    have hlatched : ¬ (a = .latch ∧ e.kinds.toNat % 8 ≠ 0) := fun h =>
      hlatch ⟨(byte_eq_two_iff _).mpr (hlatches.mp h.1), h.2⟩
    simp only [filterEntry?, ha]
    rw [if_neg hranges, if_neg hlatched]
  · simp only [FilterEntry.numbers, BitVec.toNat_setWidth, hcode, Prod.mk.injEq, and_true]
    exact ⟨Nat.mod_eq_of_lt (Nat.not_le.mp hkinds), Nat.mod_eq_of_lt (Nat.not_le.mp hstrings)⟩

theorem filterTable?_of_bad {l : List FilterImage} (h : ∃ e ∈ l, BadEntry e) : filterTable? l = none := by
  induction l with
  | nil => simp at h
  | cons e l ih =>
    rw [filterTable?]
    split
    · next he hl =>
      rcases (List.exists_mem_cons_iff _ _ _).mp h with hbad | hbad
      · rw [filterEntry?_of_bad hbad] at he
        cases he
      · rw [ih hbad] at hl
        cases hl
    · rfl

theorem filterTable?_of_not_bad {l : List FilterImage} (h : ∀ e ∈ l, ¬ BadEntry e) : ∃ table, filterTable? l = some table ∧
    table.map FilterEntry.numbers = l.map fun e => (e.kinds.toNat, e.strings.toNat, e.action.toNat) := by
  induction l with
  | nil => exact ⟨[], rfl, rfl⟩
  | cons e l ih =>
    obtain ⟨he, hl⟩ := List.forall_mem_cons.mp h
    obtain ⟨f, hf, hnumbers⟩ := filterEntry?_of_not_bad he
    obtain ⟨table, htable, hmap⟩ := ih hl
    refine ⟨f :: table, ?_, ?_⟩
    · simp only [filterTable?, hf, htable]
    · rw [List.map_cons, List.map_cons, hnumbers, hmap]

theorem State.doSetFilter_invalid (s : State) (p : Port) {l : List FilterImage}
    (h : 8 < l.length ∨ filterTable? l = none) : s.doSetFilter p l = (s, refuse .invalid) := by
  unfold State.doSetFilter
  split
  · rfl
  · next hlen => rw [h.resolve_left hlen]

theorem State.doSetFilter_taken (s : State) (p : Port) {l : List FilterImage} {table : List FilterEntry}
    (hlen : ¬ 8 < l.length) (h : filterTable? l = some table) :
    s.doSetFilter p l = (s.updStream p fun t => { t with filter := table }, ok []) := by
  unfold State.doSetFilter
  rw [h]
  exact if_neg hlen

theorem filterCommands : Claims.FilterCommands := by
  intro p s h
  refine ⟨fun l => ⟨fun hbad => ?_, fun hbad => ?_⟩, ?_⟩
  · rw [exec_setFilter, State.frame_of_ready _ _ h, s.doSetFilter_invalid p (hbad.imp_right filterTable?_of_bad)]
    rfl
  · obtain ⟨hlen, hentries⟩ := not_or.mp hbad
    obtain ⟨table, htable, hmap⟩ := filterTable?_of_not_bad fun e he hbad => hentries ⟨e, he, hbad⟩
    refine ⟨table, hmap, ?_⟩
    rw [exec_setFilter, State.frame_of_ready _ _ h, s.doSetFilter_taken p hlen htable]
    rfl
  · rw [exec_readFilter, State.frame_of_ready 0 _ h]
    rfl

/-- Settles O43: the settings, and the filter table. -/
theorem settingsAndFilterCommands : Obligations.SettingsAndFilterCommands := ⟨setStream, filterCommands⟩

end Sys2Proof.Machine
end

section
/-!
PROOF. POST_CUE, FETCH and RELEASE, and the closing of packets (R152, R157, R159, R161, R162, R178, R190).
-/

namespace Sys2Proof.Machine

/-! ### POST_CUE (R152, R178) -/

theorem exec_postCue (p : Port) (d : Byte) (code : Half) (s : State) :
    exec (.postCue p d code) s = .next (s.frame p 3 fun t => t.doPostCue p d code) := rfl

theorem State.doPostCue_invalid (s : State) (p : Port) {d : Byte} (code : Half) (h : d.toNat = 0 ∨ 4 ≤ d.toNat) :
    s.doPostCue p d code = (s, refuse .invalid) := if_pos h

theorem State.doPostCue_taken (s : State) (p : Port) {d : Byte} (code : Half) (h : ¬ (d.toNat = 0 ∨ 4 ≤ d.toNat)) :
    s.doPostCue p d code =
      let ra := s.postTo (d.getLsbD 0) .a p code
      let rb := ra.1.postTo (d.getLsbD 1) .b p code
      (rb.1, ok [BitVec.ofNat 8 ra.2.code, BitVec.ofNat 8 rb.2.code]) := if_neg h

/-- One destination, with the outcome as its byte (R152, R153, R181). -/
theorem State.postTo_byte (s : State) (named : Bool) (dest source : Port) (code : Half) :
    ((s.postTo named dest source code).1, BitVec.ofNat 8 (s.postTo named dest source code).2.code) =
      if named = false then (s, (0 : Byte))
      else if (s.streams.get dest).state = .stopped then (s, 3)
      else if (s.streams.get dest).cue ≠ none then (s, 4)
      else
        let v := (s.updStream dest fun t => { t with cue := some ⟨source, code⟩ }).formCue dest
        (v, if (v.streams.get dest).cue = none then 1 else 2) := by
  unfold State.postTo
  dsimp only
  simp only [Option.isSome_iff_ne_none, Option.isNone_iff_eq_none]
  repeat' split
  all_goals rfl

theorem postCue : Claims.PostCue := by
  intro p d code s h
  have hzero : d = 0 ↔ d.toNat = 0 := BitVec.toNat_inj.symm
  refine ⟨fun hd => ?_, fun hd hlt => ?_⟩
  · rw [exec_postCue, State.frame_of_ready 3 _ h, State.doPostCue_invalid s p code (hd.imp_left hzero.mp)]
    rfl
  · intro post ra rb
    have hpost (named : Bool) (q : Port) (u : State) :
        ((u.postTo named q p code).1, BitVec.ofNat 8 (u.postTo named q p code).2.code) = post named q u :=
      u.postTo_byte named q p code
    have hd' : ¬ (d.toNat = 0 ∨ 4 ≤ d.toNat) := not_or.mpr ⟨mt hzero.mpr hd, Nat.not_le.mpr hlt⟩
    rw [exec_postCue, State.frame_of_ready 3 _ h, State.doPostCue_taken s p code hd']
    simp only [rb, ra, ← hpost]
    rfl

/-- Settles O45: the forming of a cue, and the two destinations. -/
theorem cues : Obligations.Cues := ⟨cuesAreFormed, postCue⟩

/-! ### Closing (R157, R159) -/

theorem exec_idleTimerExpiry (p : Port) (s : State) : exec (.idleTimerExpiry p) s = .next (s.takeIdle p) := rfl

theorem State.takeIdle_of_none {s : State} {p : Port} (h : (s.streams.get p).opened = none) : s.takeIdle p = s := by
  simp [State.takeIdle, Stream.idleDue, h]

theorem State.takeIdle_of_some {s : State} {p : Port} {k : OpenPacket} (h : (s.streams.get p).opened = some k) :
    s.takeIdle p = if k.idleLeft = 0 then s.closeOpen p .idle else s := by
  simp [State.takeIdle, Stream.idleDue, h]

theorem packetsClose : Claims.PacketsClose := by
  intro p s t
  refine ⟨fun h => ⟨State.closeOpen_of_none h, ?_⟩, fun k hk => ⟨fun cause => ?_, ?_⟩⟩
  · rw [exec_idleTimerExpiry, State.takeIdle_of_none h]
  · rw [State.closeOpen_of_some hk]
    exact congrArg (fun u => State.raise u p .pkt) (State.updStream_congr rfl)
  · rw [exec_idleTimerExpiry, State.takeIdle_of_some hk]

/-! ### FETCH and RELEASE (R161, R162, R164) -/

theorem exec_fetch (p : Port) (s : State) : exec (.fetch p) s = .next (s.frame p 0 fun t => t.doFetch p) := rfl

theorem exec_release (p : Port) (seq : Byte) (s : State) :
    exec (.release p seq) s = .next (s.frame p 1 fun t => t.doRelease p seq) := rfl

theorem fetch : Claims.Fetch := by
  intro p s h
  rw [exec_fetch, State.frame_of_ready 0 _ h, State.doFetch]
  cases (s.streams.get p).closed <;> rfl

theorem release : Claims.Release := by
  intro p seq s h
  rw [exec_release, State.frame_of_ready 1 _ h, State.doRelease]
  dsimp only
  cases (s.streams.get p).closed with
  | nil => rfl
  | cons k rest =>
    dsimp only
    by_cases hseq : k.seq = seq
    · have hstate : ((s.updStream p fun t => { t with closed := rest }).streams.get p).state =
          (s.streams.get p).state := by simp
      have hgap : ((s.updStream p fun t => { t with closed := rest }).streams.get p).gap =
          (s.streams.get p).gap := by simp
      rw [if_pos hseq, if_neg (not_not.mpr hseq), State.afterFree, hstate, hgap]
      cases (s.streams.get p).state <;> rfl
    · rw [if_neg hseq, if_pos hseq]

end Sys2Proof.Machine
end

section
/-!
SUPPORT. What a port keeps of its Stream Unit through everything that the other blocks do: all but the publications
that wait.
-/

namespace Sys2Proof.Machine

/-- A Stream Unit but for the publications that wait at it. -/
def Stream.ring (t : Stream) : Stream := { t with waiting := [] }

@[simp] theorem Stream.ring_waiting (t : Stream) (l : List Waiting) : Stream.ring { t with waiting := l } = t.ring := rfl

/-! ### Trackers and aux inputs -/

@[simp] theorem State.publish_ring (s : State) (m : Maker) (u : Publication) (p : Port) :
    ((s.publish m u).streams.get p).ring = (s.streams.get p).ring := by
  simp [State.publish_stream]

@[simp] theorem State.linkNotice_ring (s : State) (c : NoticeCode) (a b : Nat) (p : Port) :
    ((s.linkNotice c a b).streams.get p).ring = (s.streams.get p).ring := s.publish_ring _ _ p

/-- What a boundary of a tracker publishes waits, and nothing else of a stream changes. -/
theorem State.BoundaryOf.ring {s t : State} {n : StringNo} {k : Tracker} {made : List Publication}
    (h : s.BoundaryOf t n k made) (p : Port) : (t.streams.get p).ring = (s.streams.get p).ring := by
  rw [h.2.2 p]
  rfl

theorem State.Bounded.ring {s t : State} {n : StringNo} (h : s.Bounded t n) (p : Port) :
    (t.streams.get p).ring = (s.streams.get p).ring := by
  obtain ⟨k, made, hb⟩ := h
  exact hb.ring p

@[simp] theorem State.publishTrack_ring (s : State) (n : StringNo) (k : TrackKind) (p : Port) :
    ((s.publishTrack n k).streams.get p).ring = (s.streams.get p).ring := (s.publishTrack_bounded n k).ring p

@[simp] theorem State.adoptBank_ring (s : State) (n : StringNo) (p : Port) :
    ((s.adoptBank n).streams.get p).ring = (s.streams.get p).ring := (s.adoptBank_boundary n).ring p

@[simp] theorem State.enterSilent_ring (s : State) (n : StringNo) (p : Port) :
    ((s.enterSilent n).streams.get p).ring = (s.streams.get p).ring := (s.enterSilent_bounded n).ring p

@[simp] theorem State.enterMuted_ring (s : State) (n : StringNo) (c : EndCause) (p : Port) :
    ((s.enterMuted n c).streams.get p).ring = (s.streams.get p).ring := by
  by_cases h : (s.trackers.get n).state = .muted
  · rw [State.enterMuted_of_muted c h]
  · exact (State.enterMuted_boundary c h).ring p

@[simp] theorem State.leaveMuted_ring (s : State) (n : StringNo) (p : Port) :
    ((s.leaveMuted n).streams.get p).ring = (s.streams.get p).ring := by
  unfold State.leaveMuted
  split <;> simp

@[simp] theorem State.ghost_ring (s : State) (n : StringNo) (p : Port) :
    ((s.ghost n).streams.get p).ring = (s.streams.get p).ring := (s.ghost_boundary n).ring p

/-- The events of a tracker's timers. -/
@[simp] theorem State.trackerEvents_ring (s : State) (n : StringNo) (p : Port) :
    ((s.takeStall n).streams.get p).ring = (s.streams.get p).ring ∧
    ((s.takeTimeout n).streams.get p).ring = (s.streams.get p).ring ∧
    ((s.takeRelease n).streams.get p).ring = (s.streams.get p).ring ∧
    ((s.takeLevel n).streams.get p).ring = (s.streams.get p).ring ∧
    ((s.finishTracker n).streams.get p).ring = (s.streams.get p).ring :=
  ⟨(s.takeStall_bounded n).ring p, (s.takeTimeout_bounded n).ring p, (s.takeRelease_bounded n).ring p,
    (s.takeLevel_bounded n).ring p, (s.finishTracker_bounded n).ring p⟩

@[simp] theorem State.finishTrackers_ring (s : State) (p : Port) :
    (s.finishTrackers.streams.get p).ring = (s.streams.get p).ring :=
  State.forStrings_keeps (fun t => (t.streams.get p).ring) s _ fun n t => by simp

@[simp] theorem State.startNote_ring (s : State) (n : StringNo) (v : Int) (p : Port) :
    ((s.startNote n v).streams.get p).ring = (s.streams.get p).ring := by
  simp [State.startNote]

@[simp] theorem State.sampleOnset_ring (s : State) (n : StringNo) (kept : Option (Nat × Nat)) (v : Option Int)
    (p : Port) : ((s.sampleOnset n kept v).streams.get p).ring = (s.streams.get p).ring := by
  have hcounted : ((s.onsetCounted n kept).streams.get p).ring = (s.streams.get p).ring := rfl
  rw [State.sampleOnset_eq]
  cases v with
  | some pitch => simp [hcounted]
  | none =>
    dsimp only
    split
    · simp [hcounted]
    · exact hcounted

@[simp] theorem State.acceptIf_ring (s : State) (n : StringNo) (v : Option Int) (p : Port) :
    ((s.acceptIf n v).streams.get p).ring = (s.streams.get p).ring := by
  cases v with
  | none => rfl
  | some v =>
    simp only [State.acceptIf, State.accept]
    repeat' split
    all_goals simp

@[simp] theorem State.requestBank_ring (s : State) (k : Bank) (n : StringNo) (p : Port) :
    ((s.requestBank k n).streams.get p).ring = (s.streams.get p).ring := by
  unfold State.requestBank State.takeRequest
  dsimp only
  repeat' split
  all_goals simp

/-- The events of an aux input. -/
@[simp] theorem State.auxEvents_ring (s : State) (x : AuxNo) (p : Port) :
    ((s.takeAux x).streams.get p).ring = (s.streams.get p).ring ∧
    ((s.takeDigital x).streams.get p).ring = (s.streams.get p).ring := by
  unfold State.takeAux State.takeDigital
  dsimp only
  constructor
  all_goals
    repeat' split
    all_goals simp

@[simp] theorem State.finishAux_ring (s : State) (x : AuxNo) (p : Port) :
    ((s.finishAux x).streams.get p).ring = (s.streams.get p).ring := by
  simp [State.finishAux]

@[simp] theorem State.auxBefore_ring (s : State) (x : AuxNo) (p : Port) :
    ((s.auxBefore x).streams.get p).ring = (s.streams.get p).ring := by
  cases x <;> simp [State.auxBefore]

@[simp] theorem State.watchEnd_ring (s : State) (p : Port) :
    (s.watchEnd.streams.get p).ring = (s.streams.get p).ring := by
  unfold State.watchEnd State.loseWordClock
  split <;> simp

/-! ### The PKT flag, where a block raises a flag of its own

The lemmas of this part say both: the ring, and PKT at the port. -/

/-- PKT is set at the port (R157, R183). -/
def PortIf.pkt (q : PortIf) : Bool := Flag.pkt.isSet q.flags

/-- Raising another flag leaves PKT. -/
theorem State.raise_pkt (s : State) (q p : Port) {f : Flag} (h : Flag.pkt ≠ f) :
    ((s.raise q f).ports.get p).pkt = (s.ports.get p).pkt := by
  rw [State.raise_port]
  split
  · simp [PortIf.pkt, Flag.isSet_raiseIn, h]
  · rfl

theorem State.raiseBoth_pkt (s : State) (p : Port) {f : Flag} (h : Flag.pkt ≠ f) :
    ((s.raiseBoth f).ports.get p).pkt = (s.ports.get p).pkt := by
  rw [State.raiseBoth, State.raise_pkt _ _ _ h, State.raise_pkt _ _ _ h]

@[simp] theorem State.raise_link_pkt (s : State) (p : Port) :
    ((s.raiseBoth .link).ports.get p).pkt = (s.ports.get p).pkt := s.raiseBoth_pkt p (by decide)

@[simp] theorem State.raise_fault_pkt (s : State) (p : Port) :
    ((s.raiseBoth .fault).ports.get p).pkt = (s.ports.get p).pkt := s.raiseBoth_pkt p (by decide)

@[simp] theorem State.endLearn_pkt (s : State) (g : Target) (r : LastResult) (p : Port) :
    ((s.endLearn g r).ports.get p).pkt = (s.ports.get p).pkt := by
  rw [State.endLearn, State.raise_pkt _ _ _ (by decide)]

@[simp] theorem State.failLearn_pkt (s : State) (r : LearnReason) (p : Port) :
    ((s.failLearn r).ports.get p).pkt = (s.ports.get p).pkt := by
  unfold State.failLearn
  split <;> simp

@[simp] theorem State.learnOnset_pkt (s : State) (n : StringNo) (p : Port) :
    ((s.learnOnset n).ports.get p).pkt = (s.ports.get p).pkt := by
  unfold State.learnOnset
  repeat' split
  all_goals simp

@[simp] theorem State.learnDropped_pkt (s : State) (n : StringNo) (p : Port) :
    ((s.learnDropped n).ports.get p).pkt = (s.ports.get p).pkt := by
  unfold State.learnDropped
  repeat' split
  all_goals simp

@[simp] theorem State.captureEnd_pkt (s : State) (p : Port) :
    (s.captureEnd.ports.get p).pkt = (s.ports.get p).pkt := by
  unfold State.captureEnd
  dsimp only
  repeat' split
  all_goals simp

/-! ### A tracker's sample -/

@[simp] theorem State.beginOnset_ring (s : State) (n : StringNo) (k : Nat) (p : Port) :
    ((s.beginOnset n k).streams.get p).ring = (s.streams.get p).ring ∧
    ((s.beginOnset n k).ports.get p).pkt = (s.ports.get p).pkt :=
  ⟨(s.beginOnset_boundary n k).ring p, by simp [State.beginOnset]⟩

@[simp] theorem State.repick_ring (s : State) (n : StringNo) (k : Nat) (p : Port) :
    ((s.repick n k).streams.get p).ring = (s.streams.get p).ring ∧
    ((s.repick n k).ports.get p).pkt = (s.ports.get p).pkt := by
  simp [State.repick]

@[simp] theorem State.sampleSounding_ring (s : State) (n : StringNo) (kept : Option (Nat × Nat)) (v : Option Int)
    (p : Port) : ((s.sampleSounding n kept v).streams.get p).ring = (s.streams.get p).ring ∧
    ((s.sampleSounding n kept v).ports.get p).pkt = (s.ports.get p).pkt := by
  unfold State.sampleSounding
  split <;> simp

@[simp] theorem State.sampleReleasing_ring (s : State) (n : StringNo) (kept : Option (Nat × Nat)) (v : Option Int)
    (p : Port) : ((s.sampleReleasing n kept v).streams.get p).ring = (s.streams.get p).ring ∧
    ((s.sampleReleasing n kept v).ports.get p).pkt = (s.ports.get p).pkt := by
  unfold State.sampleReleasing
  dsimp only
  repeat' split
  all_goals simp

@[simp] theorem State.trackerSample_ring (s : State) (n : StringNo) (y : Int) (p : Port) :
    ((s.trackerSample n y).streams.get p).ring = (s.streams.get p).ring ∧
    ((s.trackerSample n y).ports.get p).pkt = (s.ports.get p).pkt := by
  rw [State.trackerSample_eq]
  unfold State.decideSample
  repeat' split
  all_goals simp

@[simp] theorem State.sampleTrackers_ring (s : State) (turn : StringNo → Bool) (v : Six (Option Int)) (p : Port) :
    ((s.sampleTrackers turn v).streams.get p).ring = (s.streams.get p).ring ∧
    ((s.sampleTrackers turn v).ports.get p).pkt = (s.ports.get p).pkt := by
  constructor
  · exact State.forStrings_keeps (fun t => (t.streams.get p).ring) s _ fun n t => by split <;> simp
  · exact State.forStrings_keeps (fun t => (t.ports.get p).pkt) s _ fun n t => by split <;> simp

/-! ### The link monitor -/

@[simp] theorem State.leaveActive_ring (s : State) (p : Port) :
    (s.leaveActive.streams.get p).ring = (s.streams.get p).ring ∧
    (s.leaveActive.ports.get p).pkt = (s.ports.get p).pkt := by
  have hmuted : (s.muteAll.streams.get p).ring = (s.streams.get p).ring :=
    State.forStrings_keeps (fun t => (t.streams.get p).ring) s _ fun n t => by simp
  rw [State.leaveActive_eq]
  simp [hmuted]

@[simp] theorem State.enterLink_ring (s : State) (st : LinkState) (p : Port) :
    ((s.enterLink st).streams.get p).ring = (s.streams.get p).ring ∧
    ((s.enterLink st).ports.get p).pkt = (s.ports.get p).pkt := by
  unfold State.enterLink
  dsimp only
  split <;> simp

@[simp] theorem State.enterLinkNoticed_ring (s : State) (st : LinkState) (p : Port) :
    ((s.enterLinkNoticed st).streams.get p).ring = (s.streams.get p).ring := by
  simp [State.enterLinkNoticed]

@[simp] theorem State.releaseUsable_ring (s : State) (p : Port) :
    (s.releaseUsable.streams.get p).ring = (s.streams.get p).ring :=
  State.forStrings_keeps (fun t => (t.streams.get p).ring) s _ fun n t => by split <;> simp

@[simp] theorem State.noticeWidth_ring (s : State) (w : Nat) (p : Port) :
    ((s.noticeWidth w).streams.get p).ring = (s.streams.get p).ring := by
  unfold State.noticeWidth
  split <;> simp

@[simp] theorem State.takeWindowEnd_ring (s : State) (p : Port) :
    (s.takeWindowEnd.streams.get p).ring = (s.streams.get p).ring ∧
    (s.takeWindowEnd.ports.get p).pkt = (s.ports.get p).pkt := by
  unfold State.takeWindowEnd
  split <;> simp

@[simp] theorem State.dropChannel_ring (s : State) (i : Sin) (p : Port) :
    ((s.dropChannel i).streams.get p).ring = (s.streams.get p).ring ∧
    ((s.dropChannel i).ports.get p).pkt = (s.ports.get p).pkt := by
  unfold State.dropChannel
  dsimp only
  split <;> simp

@[simp] theorem State.takeStuckLong_ring (s : State) (i : Sin) (p : Port) :
    ((s.takeStuckLong i).streams.get p).ring = (s.streams.get p).ring ∧
    ((s.takeStuckLong i).ports.get p).pkt = (s.ports.get p).pkt := by
  unfold State.takeStuckLong
  dsimp only
  repeat' split
  all_goals simp

@[simp] theorem State.finishInputs_ring (s : State) (p : Port) :
    (s.finishInputs.streams.get p).ring = (s.streams.get p).ring ∧
    (s.finishInputs.ports.get p).pkt = (s.ports.get p).pkt := by
  simp [State.finishInputs, Sin.all, State.finishInput]

@[simp] theorem State.surprise_ring (s : State) (w : Nat) (p : Port) :
    ((s.surprise w).streams.get p).ring = (s.streams.get p).ring := by
  simp [State.surprise]

@[simp] theorem State.holdEnd_ring (s : State) (level : Bool) (p : Port) :
    ((s.holdEnd level).streams.get p).ring = (s.streams.get p).ring := by
  unfold State.holdEnd State.presenceTrue State.presenceFalse
  dsimp only
  repeat' split
  all_goals simp

@[simp] theorem State.powerUpEnd_ring (s : State) (p : Port) :
    (s.powerUpEnd.streams.get p).ring = (s.streams.get p).ring := by
  unfold State.powerUpEnd
  split <;> simp

@[simp] theorem State.overCurrent_ring (s : State) (p : Port) :
    (s.overCurrent.streams.get p).ring = (s.streams.get p).ring := by
  unfold State.overCurrent
  split <;> simp

@[simp] theorem State.linkCommit_ring (s : State) (old new : Global) (p : Port) :
    ((s.linkCommit old new).streams.get p).ring = (s.streams.get p).ring := by
  have htracker (n : StringNo) (t : State) :
      ((t.remapTracker old new n).streams.get p).ring = (t.streams.get p).ring := by
    unfold State.remapTracker
    repeat' split
    all_goals simp
  have hall (t : State) :
      ((t.forStrings fun n u => u.remapTracker old new n).streams.get p).ring = (t.streams.get p).ring :=
    State.forStrings_keeps (fun t => (t.streams.get p).ring) t _ htracker
  unfold State.linkCommit State.reevaluate
  repeat' split
  all_goals simp [hall]

@[simp] theorem State.commitGlobal_ring (s : State) (g : Global) (p : Port) :
    ((s.commitGlobal g).streams.get p).ring = (s.streams.get p).ring := by
  simp [State.commitGlobal_eq]

/-! ### A conversion set and a millisecond -/

@[simp] theorem State.finishSet_ring (s : State) (p : Port) :
    (s.finishSet.streams.get p).ring = (s.streams.get p).ring ∧
    (s.finishSet.ports.get p).pkt = (s.ports.get p).pkt := by
  simp [State.finishSet, State.finishEvents]

@[simp] theorem State.monitorChanges_ring (s : State) (windowFirst : Bool) (p : Port) :
    ((s.monitorChanges windowFirst).streams.get p).ring = (s.streams.get p).ring ∧
    ((s.monitorChanges windowFirst).ports.get p).pkt = (s.ports.get p).pkt := by
  unfold State.monitorChanges
  split <;> simp

@[simp] theorem State.setSampled_ring (s : State) (pins : SetInputs) (order : SetOrder) (p : Port) :
    ((s.setSampled pins order).streams.get p).ring = (s.streams.get p).ring ∧
    ((s.setSampled pins order).ports.get p).pkt = (s.ports.get p).pkt := by
  unfold State.setSampled State.setTapped
  dsimp only
  split <;> simp

@[simp] theorem State.tickWatch_ring (s : State) (p : Port) :
    (s.tickWatch.streams.get p).ring = (s.streams.get p).ring := by
  unfold State.tickWatch State.loseWordClock
  split <;> simp

@[simp] theorem State.tickDelay_ring (s : State) (p : Port) :
    (s.tickDelay.streams.get p).ring = (s.streams.get p).ring := by
  unfold State.tickDelay
  repeat' split
  all_goals simp

@[simp] theorem State.tickArm_streams (s : State) : s.tickArm.streams = s.streams := by
  unfold State.tickArm
  repeat' split
  all_goals simp

@[simp] theorem State.tickHold_ring (s : State) (p : Port) :
    (s.tickHold.streams.get p).ring = (s.streams.get p).ring := by
  unfold State.tickHold
  dsimp only
  split <;> simp

@[simp] theorem State.tick_ring (s : State) (p : Port) :
    (s.tick.streams.get p).ring = (s.streams.get p).ring := by
  simp [State.tick]

end Sys2Proof.Machine
end

section
/-!
PROOF. A conversion set at the rings: the idle timers, and the packets they close (R157, R159).
-/

namespace Sys2Proof.Machine

/-! ### What a close makes of a stream (R157) -/

/-- The stream behind a close of its OPEN packet (R157). -/
def Stream.close (t : Stream) (cause : CloseCause) : Stream :=
  match t.opened with
  | none => t
  | some k => { t with
      opened := none, nextSeq := t.nextSeq + 1, closed := t.closed ++ [k.close t.nextSeq cause] }

theorem Stream.close_of_none {t : Stream} (h : t.opened = none) (cause : CloseCause) : t.close cause = t := by
  simp [Stream.close, h]

theorem Stream.close_of_some {t : Stream} {k : OpenPacket} (h : t.opened = some k) (cause : CloseCause) :
    t.close cause = { t with
      opened := none, nextSeq := t.nextSeq + 1, closed := t.closed ++ [k.close t.nextSeq cause] } := by
  simp [Stream.close, h]

theorem State.closeOpen_get (s : State) (p q : Port) (cause : CloseCause) :
    (s.closeOpen p cause).streams.get q = if q = p then (s.streams.get q).close cause else s.streams.get q := by
  cases h : (s.streams.get p).opened with
  | none =>
    rw [State.closeOpen_of_none h]
    split
    · next hq => rw [hq, Stream.close_of_none h]
    · rfl
  | some k =>
    rw [State.closeOpen_of_some h, State.raise_streams, State.updStream_get]
    split
    · next hq => rw [hq, Stream.close_of_some h]
    · rfl

/-! ### The idle timer (R159) -/

/-- The stream behind the row of its idle timer (R159). -/
def Stream.takeIdle (t : Stream) : Stream := if t.idleDue then t.close .idle else t

theorem State.takeIdle_get (s : State) (p q : Port) :
    (s.takeIdle p).streams.get q = if q = p then (s.streams.get q).takeIdle else s.streams.get q := by
  unfold State.takeIdle
  split
  · next h =>
    rw [State.closeOpen_get]
    split
    · next hq => rw [hq, Stream.takeIdle, if_pos h]
    · rfl
  · next h =>
    split
    · next hq => rw [hq, Stream.takeIdle, if_neg h]
    · rfl

theorem Stream.takeIdle_of_none {t : Stream} (h : t.opened = none) : t.takeIdle = t := by
  simp [Stream.takeIdle, Stream.idleDue, h]

theorem Stream.takeIdle_of_due {t : Stream} {k : OpenPacket} (h : t.opened = some k) (hk : k.idleLeft = 0) :
    t.takeIdle = t.close .idle := by
  simp [Stream.takeIdle, Stream.idleDue, h, hk]

theorem Stream.takeIdle_of_running {t : Stream} {k : OpenPacket} (h : t.opened = some k) (hk : k.idleLeft ≠ 0) :
    t.takeIdle = t := by
  simp [Stream.takeIdle, Stream.idleDue, h, hk]

/-- Neither the row nor the count of an idle timer reads or changes what waits. -/
theorem Stream.ring_takeIdle_countIdle (t : Stream) : t.takeIdle.countIdle.ring = t.ring.takeIdle.countIdle := by
  unfold Stream.takeIdle Stream.close
  cases h : t.opened with
  | none => simp [Stream.idleDue, Stream.ring, h, Stream.countIdle]
  | some k =>
    by_cases hk : k.idleLeft = 0 <;> simp [Stream.idleDue, Stream.ring, h, hk, Stream.countIdle]

theorem State.countIdles_get (s : State) (p : Port) : s.countIdles.streams.get p = (s.streams.get p).countIdle := by
  cases p <;> rfl

/-- PKT that is set stays set when an idle timer is taken, and is raised by the close of its packet (R157). -/
theorem State.takeIdle_pkt (s : State) (p q : Port) : ((s.takeIdle p).ports.get q).pkt =
    ((decide (q = p) && (s.streams.get p).idleDue) || (s.ports.get q).pkt) := by
  unfold State.takeIdle
  cases hdue : (s.streams.get p).idleDue with
  | false => simp
  | true =>
    cases h : (s.streams.get p).opened with
    | none => simp [Stream.idleDue, h] at hdue
    | some k =>
      rw [if_pos rfl, State.closeOpen_of_some h, State.raise_port]
      by_cases hq : q = p <;> simp [hq, PortIf.pkt, Flag.isSet_raiseIn]

/-! ### The set (R159) -/

theorem State.met_stream (s : State) (p : Port) : s.met.streams.get p = (s.finishSet.streams.get p).takeIdle := by
  cases p <;> simp [State.met, State.takeIdle_get]

/-- A conversion set takes the idle timer of each ring and counts it; nothing else of a ring changes. -/
theorem State.conversionSet_ring (s : State) (pins : SetInputs) (order : SetOrder) (p : Port) :
    ((s.conversionSet pins order).streams.get p).ring = ((s.streams.get p).takeIdle.countIdle).ring := by
  have hcount (t : Stream) : t.countIdle.ring = t.ring.countIdle := rfl
  rw [State.conversionSet_eq, State.handleSet_eq, State.countIdles_get, hcount, Stream.ring_takeIdle_countIdle,
    ← (s.finishSet_ring p).1, ← Stream.ring_takeIdle_countIdle, hcount, ← State.met_stream]
  split <;> simp

theorem State.conversionSet_pkt (s : State) (pins : SetInputs) (order : SetOrder) {p : Port}
    (h : (s.streams.get p).idleDue = true) : ((s.conversionSet pins order).ports.get p).pkt = true := by
  have hdue : (s.finishSet.streams.get p).idleDue = true := by
    rw [← h]
    exact (congrArg Stream.idleDue (s.finishSet_ring p).1 :)
  have hmet : (s.met.ports.get p).pkt = true := by
    cases p with
    | a => simp [State.met, State.takeIdle_pkt, hdue]
    | b => simp [State.met, State.takeIdle_pkt, State.takeIdle_get, hdue]
  rw [State.conversionSet_eq, State.handleSet_eq]
  split <;> simp [hmet]

theorem conversionSetCountsTheIdleTimer : Claims.ConversionSetCountsTheIdleTimer := by
  intro src pins order s t p hsrc ht a b
  obtain rfl := State.conversionSet_of_exec hsrc ht
  have hring : b.ring = (a.takeIdle.countIdle).ring := s.conversionSet_ring pins order p
  have hopened : b.opened = a.takeIdle.countIdle.opened := (congrArg Stream.opened hring :)
  have hclosed : b.closed = a.takeIdle.closed := (congrArg Stream.closed hring :)
  have hseq : b.nextSeq = a.takeIdle.nextSeq := (congrArg Stream.nextSeq hring :)
  cases hk : a.opened with
  | none =>
    rw [Stream.takeIdle_of_none hk] at hopened hclosed hseq
    exact ⟨by simp [hopened, Stream.countIdle, hk], hclosed, hseq⟩
  | some k =>
    dsimp only
    split
    · next hdue =>
      rw [Stream.takeIdle_of_due hk hdue, Stream.close_of_some hk] at hopened hclosed hseq
      exact ⟨hopened, hseq, s.conversionSet_pkt pins order (by simp [a, Stream.idleDue, hk, hdue]), hclosed⟩
    · next hdue =>
      rw [Stream.takeIdle_of_running hk hdue] at hopened hclosed hseq
      exact ⟨by simp [hopened, Stream.countIdle, hk], hclosed, hseq⟩

/-- Settles O46: closing, FETCH, RELEASE, the idle timer at a set, and the records in bytes. -/
theorem packetsCloseAndAreReleased : Obligations.PacketsCloseAndAreReleased :=
  ⟨packetsClose, fetch, release, conversionSetCountsTheIdleTimer, recordBytes⟩

end Sys2Proof.Machine
end

section
/-!
SUPPORT. The invariant of a Stream Unit in its parts, and what keeps them: closing, storing, the filter table, cues,
the records of a publication and the resync sequence (R134, R136, R149, R156, R157, R158, R163, R164).
-/

namespace Sys2Proof.Machine

/-! ### The invariant in its parts -/

/-- A view entry without a note holds bend 0 and level 0, and its bend lies in its range (R134, R140). -/
def ViewEntry.Fine (v : ViewEntry) : Prop := (v.note = Option.none → v = ⟨Option.none, 0, 0⟩) ∧ -8192 ≤ v.bend ∧ v.bend ≤ 8191

/-- Every entry of the view is as it must be. -/
def ViewFine (view : Six ViewEntry) : Prop := ∀ n, (view.get n).Fine

/-- A table of at most 8 entries, no LATCH of NOTE_ON, NOTE_OFF or BEND (R149). -/
def TableLegal (l : List FilterEntry) : Prop := l.length ≤ 8 ∧ ∀ e ∈ l, e.action = .latch → e.kinds &&& 7 = 0

/-- A CLOSED packet under the limit in force (R157). -/
def ClosedPacket.Under (k : ClosedPacket) (limit : Nat) : Prop :=
  k.count = k.records.length ∧ k.limit = limit ∧ 1 ≤ k.count ∧ k.count ≤ k.limit

/-- An OPEN packet that may be full, under the limit in force (R158, R159). -/
def OpenPacket.Under (k : OpenPacket) (limit : Nat) : Prop :=
  k.limit = limit ∧ 1 ≤ k.records.length ∧ k.records.length ≤ k.limit ∧ k.idleLeft ≤ 48000

/-- What holds of a stream even within a command: all that does not hang on the stream state. -/
structure Stream.Sound (t : Stream) : Prop where
  settings : t.settings.legal = true
  table : TableLegal t.filter
  room : t.closed.length + t.openCount ≤ t.settings.ringLength
  pos : t.openPos < t.settings.ringLength
  opened : ∀ k, t.opened = some k → k.Under t.settings.packetLimit
  closed : ∀ k ∈ t.closed, k.Under t.settings.packetLimit
  seqs : seqsEndAt t.nextSeq t.closed.reverse = true
  view : ViewFine t.view
  counts : t.gap ≤ 65535 ∧ t.lost ≤ 65535 ∧ t.overruns ≤ 65535

/-- What holds of a stream between two steps. -/
structure Stream.Fine (t : Stream) : Prop extends t.Sound where
  full : t.state = .overflow → t.closed.length = t.settings.ringLength
  runs : ∀ k, t.opened = some k → t.state = .running ∧ k.records.length < k.limit
  gap : t.state ≠ .overflow → t.gap = 0

theorem Settings.legal_iff (t : Settings) : t.legal = true ↔
    (1 ≤ t.bendRange ∧ t.bendRange ≤ 24 ∧ t.stepHyst ≤ 40 ∧ 1 ≤ t.bendStep ∧ t.bendStep ≤ 512) ∧
    (1 ≤ t.levelStep ∧ t.levelStep ≤ 32 ∧ 48 ≤ t.idleTimeout ∧ t.idleTimeout ≤ 48000) ∧
    (8 ≤ t.packetLimit ∧ t.packetLimit ≤ 32 ∧ 2 ≤ t.ringLength ∧ t.ringLength ≤ 16) := by
  simp only [Settings.legal, Bool.and_eq_true, decide_eq_true_eq, and_assoc]

theorem ViewEntry.fine_iff (v : ViewEntry) : v.Fine ↔
    (v.note.isSome || v == ⟨Option.none, 0, 0⟩) = true ∧ decide (-8192 ≤ v.bend ∧ v.bend ≤ 8191) = true := by
  rw [ViewEntry.Fine, decide_eq_true_iff, Bool.or_eq_true, beq_iff_eq, Option.isSome_iff_ne_none,
    ← Decidable.imp_iff_not_or]

theorem viewFine_iff (view : Six ViewEntry) : ViewFine view ↔
    (StringNo.all.all fun n => (view.get n).note.isSome || (view.get n) == ⟨none, 0, 0⟩) = true ∧
    (StringNo.all.all fun n => decide (-8192 ≤ (view.get n).bend ∧ (view.get n).bend ≤ 8191)) = true := by
  rw [List.all_eq_true, List.all_eq_true]
  refine ⟨fun h => ⟨fun n _ => ((view.get n).fine_iff.mp (h n)).1, fun n _ => ((view.get n).fine_iff.mp (h n)).2⟩,
    fun h n => (view.get n).fine_iff.mpr ⟨h.1 n n.mem_all, h.2 n n.mem_all⟩⟩

theorem tableLegal_iff (l : List FilterEntry) : TableLegal l ↔ decide (l.length ≤ 8) = true ∧
    (l.all fun e => e.action != .latch || e.kinds &&& 7 == 0) = true := by
  rw [TableLegal, decide_eq_true_iff, List.all_eq_true]
  refine and_congr_right fun _ => forall₂_congr fun e _ => ?_
  rw [Bool.or_eq_true, bne_iff_ne, beq_iff_eq, Decidable.imp_iff_not_or]

theorem Stream.opened_iff (t : Stream) : (t.opened.all fun k => t.state == .running &&
      k.limit == t.settings.packetLimit &&
      decide (1 ≤ k.records.length ∧ k.records.length < k.limit ∧ k.idleLeft ≤ 48000)) = true ↔
    (∀ k, t.opened = some k → k.Under t.settings.packetLimit) ∧
      ∀ k, t.opened = some k → t.state = .running ∧ k.records.length < k.limit := by
  rw [Option.all_eq_true, ← forall₂_and]
  refine forall₂_congr fun k _ => ?_
  rw [Bool.and_eq_true, Bool.and_eq_true, beq_iff_eq, beq_iff_eq, decide_eq_true_iff, OpenPacket.Under]
  constructor
  · rintro ⟨⟨hrun, hlimit⟩, hone, hlt, hidle⟩
    exact ⟨⟨hlimit, hone, hlt.le, hidle⟩, hrun, hlt⟩
  · rintro ⟨⟨hlimit, hone, -, hidle⟩, hrun, hlt⟩
    exact ⟨⟨hrun, hlimit⟩, hone, hlt, hidle⟩

theorem Stream.closed_iff (t : Stream) : (t.closed.all fun k => k.count == k.records.length &&
      k.limit == t.settings.packetLimit && decide (1 ≤ k.count ∧ k.count ≤ k.limit)) = true ↔
    ∀ k ∈ t.closed, k.Under t.settings.packetLimit := by
  rw [List.all_eq_true]
  refine forall₂_congr fun k _ => ?_
  rw [Bool.and_eq_true, Bool.and_eq_true, beq_iff_eq, beq_iff_eq, decide_eq_true_iff, and_assoc]
  rfl

/-- What `ok` says of a stream, part by part. -/
theorem Stream.ok_iff (t : Stream) : t.ok = true ↔ t.Fine := by
  have hfull : (t.state != .overflow || (t.closed.length == t.settings.ringLength)) = true ↔
      (t.state = .overflow → t.closed.length = t.settings.ringLength) := by
    rw [Bool.or_eq_true, bne_iff_ne, beq_iff_eq, Decidable.imp_iff_not_or]
  have hgap : (t.state == .overflow || t.gap == 0) = true ↔ (t.state ≠ .overflow → t.gap = 0) := by
    rw [Bool.or_eq_true, beq_iff_eq, beq_iff_eq, Decidable.or_iff_not_imp_left]
  simp only [Stream.ok, Bool.and_eq_true]
  constructor
  · rintro ⟨⟨⟨⟨⟨⟨⟨⟨⟨⟨⟨⟨hset, hlen⟩, htable⟩, hroom⟩, hpos⟩, hover⟩, hopen⟩, hclosed⟩, hseqs⟩, hnote⟩, hbend⟩, hg⟩,
      hcounts⟩
    obtain ⟨hunder, hruns⟩ := t.opened_iff.mp hopen
    exact ⟨⟨hset, (tableLegal_iff _).mpr ⟨hlen, htable⟩, of_decide_eq_true hroom, of_decide_eq_true hpos, hunder,
      t.closed_iff.mp hclosed, hseqs, (viewFine_iff _).mpr ⟨hnote, hbend⟩, of_decide_eq_true hcounts⟩,
      hfull.mp hover, hruns, hgap.mp hg⟩
  · intro h
    obtain ⟨hlen, htable⟩ := (tableLegal_iff _).mp h.table
    obtain ⟨hnote, hbend⟩ := (viewFine_iff _).mp h.view
    exact ⟨⟨⟨⟨⟨⟨⟨⟨⟨⟨⟨⟨h.settings, hlen⟩, htable⟩, decide_eq_true h.room⟩, decide_eq_true h.pos⟩, hfull.mpr h.full⟩,
      t.opened_iff.mpr ⟨h.opened, h.runs⟩⟩, t.closed_iff.mpr h.closed⟩, h.seqs⟩, hnote⟩, hbend⟩, hgap.mpr h.gap⟩,
      decide_eq_true h.counts⟩

/-! ### Closing (R157) -/

@[simp] theorem Stream.close_opened (t : Stream) (c : CloseCause) : (t.close c).opened = none := by
  cases h : t.opened with
  | none => rwa [Stream.close_of_none h]
  | some k => rw [Stream.close_of_some h]

/-- A close leaves the state, the settings and the gap count. -/
@[simp] theorem Stream.close_kept (t : Stream) (c : CloseCause) :
    (t.close c).state = t.state ∧ (t.close c).settings = t.settings ∧ (t.close c).gap = t.gap := by
  cases h : t.opened with
  | none => simp [Stream.close_of_none h]
  | some k => simp [Stream.close_of_some h]

theorem Stream.Sound.close {t : Stream} (h : t.Sound) (c : CloseCause) : (t.close c).Sound := by
  cases ho : t.opened with
  | none => rwa [Stream.close_of_none ho]
  | some k =>
    obtain ⟨hlimit, hone, hle, -⟩ := h.opened k ho
    have hroom := h.room
    rw [Stream.openCount_of_some ho] at hroom
    rw [Stream.close_of_some ho]
    exact { h with
      room := by simpa [Stream.openCount] using hroom
      opened := nofun
      closed := List.forall_mem_append.mpr
        ⟨h.closed, List.forall_mem_singleton.mpr ⟨rfl, hlimit, hone, hle⟩⟩
      seqs := by simp [seqsEndAt, OpenPacket.close, h.seqs] }

/-- Without an OPEN packet only OVERFLOW asks for more, and every other state for a gap count of 0. -/
theorem Stream.Sound.fine {t : Stream} (h : t.Sound) (ho : t.opened = none) (hs : t.state ≠ .overflow)
    (hg : t.gap = 0) : t.Fine :=
  { h with
    full := fun hover => absurd hover hs
    runs := fun k hk => by simp [ho] at hk
    gap := fun _ => hg }

theorem Stream.Fine.close {t : Stream} (h : t.Fine) (c : CloseCause) : (t.close c).Fine := by
  cases ho : t.opened with
  | none => rwa [Stream.close_of_none ho]
  | some k =>
    obtain ⟨hrun, -⟩ := h.runs k ho
    have hs : t.state ≠ .overflow := by simp [hrun]
    exact (h.toSound.close c).fine (t.close_opened c) (by simpa using hs) (by simpa using h.gap hs)

/-! ### One stream of the part -/

/-- Every stream is as it must be. -/
def State.StreamsFine (s : State) : Prop := ∀ q, (s.streams.get q).Fine

/-- Every stream but the port's own is as it must be, and of that one something else holds. -/
def State.FineBut (s : State) (p : Port) (P : Stream → Prop) : Prop :=
  P (s.streams.get p) ∧ ∀ q, q ≠ p → (s.streams.get q).Fine

theorem State.streamsOk_iff (s : State) : s.streamsOk = true ↔ s.StreamsFine := by
  rw [State.streamsOk, Bool.and_eq_true, Stream.ok_iff, Stream.ok_iff]
  exact ⟨fun h q => by cases q; exacts [h.1, h.2], fun h => ⟨h .a, h .b⟩⟩

section
variable {s : State} {p : Port} {P Q : Stream → Prop}

theorem State.StreamsFine.but (h : s.StreamsFine) (p : Port) : s.FineBut p Stream.Fine := ⟨h p, fun q _ => h q⟩

theorem State.FineBut.fine (h : s.FineBut p Stream.Fine) : s.StreamsFine := by
  intro q
  by_cases hq : q = p
  · exact hq ▸ h.1
  · exact h.2 q hq

theorem State.FineBut.imp (h : s.FineBut p P) (hpq : P (s.streams.get p) → Q (s.streams.get p)) : s.FineBut p Q :=
  ⟨hpq h.1, h.2⟩

theorem State.StreamsFine.sound (h : s.StreamsFine) (p : Port) : s.FineBut p Stream.Sound :=
  (h.but p).imp Stream.Fine.toSound

theorem State.FineBut.updStream (h : s.FineBut p P) {f : Stream → Stream}
    (hf : P (s.streams.get p) → Q (f (s.streams.get p))) : (s.updStream p f).FineBut p Q := by
  refine ⟨?_, fun q hq => ?_⟩
  · rw [State.updStream_same]
    exact hf h.1
  · rw [State.updStream_get, if_neg hq]
    exact h.2 q hq

theorem State.StreamsFine.updStream (h : s.StreamsFine) {f : Stream → Stream}
    (hf : (s.streams.get p).Fine → (f (s.streams.get p)).Fine) : (s.updStream p f).StreamsFine :=
  ((h.but p).updStream hf).fine

theorem State.StreamsFine.raise (h : s.StreamsFine) (q : Port) (f : Flag) : (s.raise q f).StreamsFine := h

theorem State.FineBut.closeOpen (h : s.FineBut p P) (c : CloseCause)
    (hc : P (s.streams.get p) → Q ((s.streams.get p).close c)) : (s.closeOpen p c).FineBut p Q := by
  refine ⟨?_, fun q hq => ?_⟩
  · rw [State.closeOpen_get, if_pos rfl]
    exact hc h.1
  · rw [State.closeOpen_get, if_neg hq]
    exact h.2 q hq

theorem State.StreamsFine.closeOpen (h : s.StreamsFine) (c : CloseCause) : (s.closeOpen p c).StreamsFine :=
  ((h.but p).closeOpen c fun ht => ht.close c).fine

/-! ### Storing a record (R134, R158, R163) -/

/-- A record that leaves the view as it must be. -/
def Stream.Fits (t : Stream) (r : Record) : Prop := ViewFine (viewAfter t.view r)

/-- The packet a record goes into has room for it. -/
theorem Stream.Fine.target {t : Stream} (h : t.Fine) :
    t.target.limit = t.settings.packetLimit ∧ t.target.records.length < t.target.limit := by
  unfold Stream.target
  cases ho : t.opened with
  | none =>
    obtain ⟨-, -, hlimit, -⟩ := (Settings.legal_iff _).mp h.settings
    exact ⟨rfl, Nat.lt_of_lt_of_le (Nat.succ_pos 7) hlimit⟩
  | some k => exact ⟨(h.opened k ho).1, (h.runs k ho).2⟩

theorem Stream.Fine.stored {t : Stream} (h : t.Fine) (hroom : ¬ t.Exhausted) {r : Record} (hr : t.Fits r) :
    (t.stored r).Sound := by
  obtain ⟨hlimit, hlt⟩ := h.target
  obtain ⟨-, ⟨-, -, -, hidle⟩, -, -, hring, -⟩ := (Settings.legal_iff _).mp h.settings
  refine { h with room := ?_, pos := ?_, opened := ?_, view := hr }
  · have hone : (t.stored r).openCount = 1 := Stream.openCount_of_some rfl
    rw [hone]
    cases ho : t.opened with
    | none => exact Nat.not_le.mp fun hle => hroom ⟨ho, hle⟩
    | some k =>
      have hopen := h.room
      rwa [Stream.openCount_of_some ho] at hopen
  · show (if t.opened = none then (t.openPos + 1) % t.settings.ringLength else t.openPos) < _
    split
    · exact Nat.mod_lt _ (by omega)
    · exact h.pos
  · rintro k ⟨⟩
    refine ⟨hlimit, ?_, ?_, hidle⟩
    · simp
    · simpa using hlt

/-- A full packet is closed behind the record (R158). -/
theorem Stream.Fine.stored_full {t : Stream} (h : t.Fine) (hrun : t.state = .running) (hroom : ¬ t.Exhausted)
    {r : Record} (hr : t.Fits r) : ((t.stored r).close .full).Fine :=
  ((h.stored hroom hr).close .full).fine (Stream.close_opened _ _) (by simp [Stream.stored, hrun])
    (by simpa [Stream.stored] using h.gap (by simp [hrun]))

theorem Stream.Fine.stored_open {t : Stream} (h : t.Fine) (hrun : t.state = .running) (hroom : ¬ t.Exhausted)
    {r : Record} (hr : t.Fits r) (hlt : (t.stored r).isFull = false) : (t.stored r).Fine := by
  rw [Stream.isFull_stored, decide_eq_false_iff_not, Nat.not_le] at hlt
  refine { h.stored hroom hr with full := ?_, runs := ?_, gap := h.gap }
  · simp [Stream.stored, hrun]
  · rintro k ⟨⟩
    exact ⟨hrun, by simpa using hlt⟩

theorem countUp_le (n : Nat) : countUp n ≤ 65535 := Nat.min_le_left _ _

/-- A record that finds no room: OVERFLOW, with a ring of CLOSED packets (R163). -/
theorem Stream.Fine.overflowLost {t : Stream} (h : t.Fine) (hex : t.Exhausted) :
    Stream.Fine { t with state := .overflow, gap := 1, lost := countUp t.lost } := by
  obtain ⟨ho, hlen⟩ := hex
  have hroom := h.room
  obtain ⟨-, -, hoverruns⟩ := h.counts
  exact { h with
    counts := ⟨Nat.le_of_ble_eq_true rfl, countUp_le _, hoverruns⟩
    full := fun _ => Nat.le_antisymm (Nat.le_trans (Nat.le_add_right _ _) hroom) hlen
    runs := fun k hk => by simp [ho] at hk
    gap := fun hs => absurd rfl hs }

theorem State.StreamsFine.storeRecord (h : s.StreamsFine) (hrun : (s.streams.get p).state = .running) {r : Record}
    (hr : (s.streams.get p).Fits r) : (s.storeRecord p r).1.StreamsFine := by
  by_cases hex : (s.streams.get p).Exhausted
  · rw [State.storeRecord_of_exhausted hex, State.overflowLost_eq]
    exact (h.updStream fun ht => ht.overflowLost hex).raise p .lost
  · have hstored : (s.updStream p fun t => t.stored r).FineBut p fun t => t = (s.streams.get p).stored r :=
      (h.but p).updStream fun _ => rfl
    rw [State.storeRecord_of_room hex, State.closeIfFull, State.updStream_same]
    split
    · exact (hstored.closeOpen .full fun heq => heq ▸ (h p).stored_full hrun hex hr).fine
    · next hopen =>
      exact (hstored.imp fun heq => heq ▸ (h p).stored_open hrun hex hr (Bool.eq_false_iff.mpr hopen)).fine

/-! ### The filter table and cues (R150, R151, R153, R160) -/

theorem State.StreamsFine.latchRecord (h : s.StreamsFine) (r : Record) : (s.latchRecord p r).StreamsFine := by
  obtain ⟨hgap, hlost, hoverruns⟩ := (h p).counts
  by_cases hl : (s.streams.get p).latch = none
  · rw [State.latchRecord_of_empty hl]
    exact (h.updStream fun ht => { ht with }).raise p .latch
  · rw [State.latchRecord_of_full hl]
    exact ((h.updStream fun ht => { ht with counts := ⟨hgap, hlost, countUp_le _⟩ }).raise p .latch).raise p .latchOvr

theorem State.StreamsFine.passFilter (h : s.StreamsFine) (hrun : (s.streams.get p).state = .running) {r : Record}
    (hr : (s.streams.get p).Fits r) : (s.passFilter p r).1.StreamsFine := by
  have hstored := h.storeRecord hrun hr
  unfold State.passFilter
  split
  · exact hstored
  · dsimp only
    split
    · exact hstored.closeOpen .flush
    · exact hstored
  · exact h.latchRecord r
  · exact h

/-- A record without a string leaves the view (R134). -/
theorem Stream.Fine.fits_of_string {t : Stream} (h : t.Fine) {r : Record} (hr : r.string = none) : t.Fits r := by
  unfold Stream.Fits viewAfter
  rw [hr]
  exact h.view

theorem State.StreamsFine.formCue (h : s.StreamsFine) (p : Port) : (s.formCue p).StreamsFine := by
  cases hc : (s.streams.get p).cue with
  | none => rwa [State.formCue_of_none hc]
  | some c =>
    by_cases hs : (s.streams.get p).state = .running
    · cases hr : (s.streams.get p).hasRoom with
      | false => rwa [State.formCue_of_waits (.inr hr)]
      | true =>
        have htaken : (s.updStream p fun t => { t with cue := none }).StreamsFine :=
          h.updStream fun ht => { ht with }
        have hpassed := htaken.passFilter (p := p) (r := ⟨none, s.siu.stamp, .cue c.source c.code⟩)
          (by simpa using hs) ((htaken p).fits_of_string rfl)
        rw [State.formCue_of_room hc hs hr]
        dsimp only
        split <;> exact hpassed
    · rwa [State.formCue_of_waits (.inl hs)]

/-! ### The resync sequence (R165, R166) -/

theorem portTerms_fine (st : Settings) (t : Tracker) : (portTerms st t).Fine := by
  unfold portTerms
  split
  · exact ⟨fun _ => rfl, by decide⟩
  · exact ⟨nofun, bendValue_bounds _ _⟩

theorem State.FineBut.resynced (h : s.FineBut p Stream.Sound) (lost : Nat) {before : List Record} {limit pos : Nat}
    (hlimit : limit = (s.streams.get p).settings.packetLimit) (hbefore : before.length + 7 ≤ limit)
    (hfree : (s.streams.get p).closed.length < (s.streams.get p).settings.ringLength)
    (hpos : pos < (s.streams.get p).settings.ringLength) : (s.resynced p lost before limit pos).StreamsFine := by
  have hcount : 1 ≤ (before ++ s.resyncRecords p lost).length ∧
      (before ++ s.resyncRecords p lost).length ≤ limit := by
    have hseven : (s.resyncRecords p lost).length = 7 := by
      rw [State.resyncRecords_eq]
      rfl
    rw [List.length_append]
    omega
  refine (h.updStream fun ht => Stream.Sound.fine ?_ rfl (by simp) rfl).fine.raise p .pkt
  exact { ht with
    room := by simpa [Stream.openCount] using hfree
    pos := hpos
    opened := nofun
    closed := List.forall_mem_append.mpr ⟨ht.closed, List.forall_mem_singleton.mpr
      ⟨rfl, hlimit, hcount⟩⟩
    seqs := by simp [seqsEndAt, OpenPacket.close, ht.seqs]
    view := fun n => by rw [Six.get_of]; exact portTerms_fine _ _
    counts := ⟨Nat.zero_le _, ht.counts.2⟩ }

/-- A resync sequence leaves every stream as it must be, whatever the state it is written in. -/
theorem State.FineBut.resync (h : s.FineBut p Stream.Sound) (lost : Nat) : (s.resync p lost).StreamsFine := by
  have hnone {u : State} (hu : u.FineBut p fun t => t.Sound ∧ t.opened = none) : (u.resync p lost).StreamsFine := by
    obtain ⟨hsound, ho⟩ := hu.1
    obtain ⟨-, -, hlimit, -, hring, -⟩ := (Settings.legal_iff _).mp hsound.settings
    by_cases hlen : (u.streams.get p).settings.ringLength ≤ (u.streams.get p).closed.length
    · rw [State.resync_of_exhausted ⟨ho, hlen⟩]
      refine (hu.updStream fun ⟨ht, _⟩ => ?_).fine
      exact { ht with
        counts := ⟨Nat.zero_le _, ht.counts.2⟩
        full := fun _ => Nat.le_antisymm (Nat.le_trans (Nat.le_add_right _ _) ht.room) hlen
        runs := fun k hk => by simp [ho] at hk
        gap := fun _ => rfl }
    · rw [State.resync_of_free ho (Nat.not_le.mp hlen)]
      have hfine := (hu.imp And.left).resynced lost (before := []) rfl (by simpa using Nat.le_of_succ_le hlimit) (Nat.not_le.mp hlen)
        (Nat.mod_lt ((u.streams.get p).openPos + 1) (by omega))
      exact hfine.formCue p
  cases hroom : (s.streams.get p).roomForResync with
  | false =>
    rw [State.resync_of_no_room hroom]
    exact hnone (h.closeOpen .full fun ht => ⟨ht.close .full, Stream.close_opened _ _⟩)
  | true =>
    cases ho : (s.streams.get p).opened with
    | none => simp [Stream.roomForResync, ho] at hroom
    | some k =>
      have hk : k.records.length + 7 ≤ k.limit := by
        rw [Stream.roomForResync, ho] at hroom
        exact of_decide_eq_true hroom
      have hopen := h.1.room
      rw [Stream.openCount_of_some ho] at hopen
      rw [State.resync_of_room ho hk]
      exact (h.resynced lost (h.1.opened k ho).1 hk hopen h.1.pos).formCue p

end

end Sys2Proof.Machine
end

section
/-!
SUPPORT. What a stream makes of a publication leaves every stream as it must be (R132, R134, R135, R141 to R148).
-/

namespace Sys2Proof.Machine

/-! ### The records that a publication forms (R135, R141 to R147) -/

/-- What is formed leaves the view of the stream it is formed for as it must be. -/
def RecordsFit (r : Stream → Option Record) : Prop := ∀ t x, t.Fine → r t = some x → t.Fits x

/-- A record of a string changes the string's entry alone (R134). -/
theorem Stream.Fine.fits_of_entry {t : Stream} (h : t.Fine) {r : Record} {n : StringNo} (hn : r.string = some n)
    (hr : ((t.view.get n).after r.payload).Fine) : t.Fits r := by
  intro m
  unfold viewAfter
  rw [hn]
  dsimp only
  rw [Six.get_set]
  split
  · exact hr
  · exact h.view m

theorem onRecord_fits (n : StringNo) (stamp : Stamp) (note velocity : Nat) (kind : OnKind) :
    RecordsFit (onRecord n stamp note velocity kind) := by
  rintro t x h ⟨⟩
  exact h.fits_of_entry rfl ⟨nofun, by simp [ViewEntry.after], by simp [ViewEntry.after]⟩

theorem ViewEntry.none_fine : ViewEntry.none.Fine := ⟨fun _ => rfl, by decide, by decide⟩

theorem offRecord_fits (n : StringNo) (stamp : Stamp) (cause : OffCause) : RecordsFit (offRecord n stamp cause) := by
  intro t x h hx
  obtain ⟨m, -, rfl⟩ := Option.map_eq_some_iff.mp hx
  exact h.fits_of_entry rfl ViewEntry.none_fine

theorem bendRecord_fits (n : StringNo) (stamp : Stamp) (pitch : Int) : RecordsFit (bendRecord n stamp pitch) := by
  intro t x h hx
  rw [bendRecord_eq] at hx
  obtain ⟨m, hm, hx⟩ := Option.bind_eq_some_iff.mp hx
  obtain ⟨-, ⟨⟩⟩ := Option.ite_none_right_eq_some.mp hx
  exact h.fits_of_entry rfl ⟨fun hnone => by simp [ViewEntry.after, hm] at hnone, bendValue_bounds _ _⟩

theorem levelRecord_fits (n : StringNo) (stamp : Stamp) (lv : Nat) : RecordsFit (levelRecord n stamp lv) := by
  intro t x h hx
  rw [levelRecord_eq] at hx
  obtain ⟨⟨hnote, -⟩, ⟨⟩⟩ := Option.ite_none_right_eq_some.mp hx
  exact h.fits_of_entry rfl ⟨fun hnone => absurd hnone hnote, (h.view n).2⟩

/-- A record without a string fits every view. -/
theorem noString_fits (stamp : Stamp) (y : Payload) : RecordsFit fun _ => some ⟨none, stamp, y⟩ := by
  rintro t x h ⟨⟩
  exact h.fits_of_string rfl

/-! ### Publications (R132, R143 to R148, R164) -/

section
variable {s : State} {p : Port}

theorem State.StreamsFine.emit (h : s.StreamsFine) {r : Stream → Option Record} (hr : RecordsFit r) :
    (s.emit p r).StreamsFine := by
  unfold State.emit
  dsimp only
  split
  · next hrun =>
    split
    · exact h
    · next x hx =>
      have hpassed := h.passFilter hrun (hr _ x (h p) hx)
      split
      · exact hpassed.formCue p
      · exact hpassed
  · exact h

theorem State.StreamsFine.emitLegato (h : s.StreamsFine) (n : StringNo) (stamp : Stamp) (note velocity : Nat)
    (kind : OnKind) : (s.emitLegato p n stamp note velocity kind).StreamsFine := by
  rw [State.emitLegato_eq]
  split
  · exact (h.emit (offRecord_fits _ _ _)).emit (onRecord_fits _ _ _ _ _)
  · exact h.emit (onRecord_fits _ _ _ _ _)

theorem State.StreamsFine.formTrack (h : s.StreamsFine) (n : StringNo) (stamp : Stamp) (kind : TrackKind)
    (m : HeldNote) (lv : Nat) : (s.formTrack p n stamp kind m lv).StreamsFine := by
  cases kind with
  | start => exact (h.emit (onRecord_fits _ _ _ _ _)).emit (bendRecord_fits _ _ _)
  | artic => exact (h.emitLegato _ _ _ _ _).emit (bendRecord_fits _ _ _)
  | pitch =>
    refine State.StreamsFine.emit ?_ (bendRecord_fits _ _ _)
    split
    · exact h.emitLegato _ _ _ _ _
    · exact h
  | level => exact h.emit (levelRecord_fits _ _ _)
  | ended cause => exact h.emit (offRecord_fits _ _ _)

theorem State.StreamsFine.formRecords (h : s.StreamsFine) (stamp : Stamp) (pub : Publication) :
    (s.formRecords p stamp pub).StreamsFine := by
  cases pub with
  | track n kind m lv => exact h.formTrack n stamp kind m lv
  | aux x v => exact h.emit (noString_fits _ _)
  | notice c a b => exact h.emit (noString_fits _ _)

theorem State.StreamsFine.handlePublication (h : s.StreamsFine) (w : Waiting) :
    (s.handlePublication p w).StreamsFine := by
  unfold State.handlePublication
  split
  · exact h.formRecords _ _
  · next hover =>
    refine (h.updStream fun ht => ?_).raise p .lost
    exact { ht with
      counts := ⟨countUp_le _, countUp_le _, ht.counts.2.2⟩
      gap := fun hs => absurd hover hs }
  · exact h
  · exact h

theorem State.StreamsFine.takePublication (h : s.StreamsFine) (m : Maker) : (s.takePublication p m).StreamsFine := by
  unfold State.takePublication
  dsimp only
  split
  · exact h
  · split
    · next rest _ _ =>
      have htaken : (s.updStream p fun t => { t with waiting := rest }).StreamsFine := h.updStream fun ht => { ht with }
      exact htaken.handlePublication _
    · exact h

end

/-! ### The idle timer (R159) -/

theorem Stream.Fine.takeIdle {t : Stream} (h : t.Fine) : t.takeIdle.Fine := by
  unfold Stream.takeIdle
  split
  · exact h.close .idle
  · exact h

theorem Stream.Fine.countIdle {t : Stream} (h : t.Fine) : t.countIdle.Fine := by
  have hmap {k : OpenPacket} (hk : t.countIdle.opened = some k) :
      ∃ k', t.opened = some k' ∧ { k' with idleLeft := k'.idleLeft - 1 } = k := Option.map_eq_some_iff.mp hk
  have hcount : t.countIdle.openCount = t.openCount := by
    cases ho : t.opened <;> simp [Stream.openCount, Stream.countIdle, ho]
  refine { h with room := hcount ▸ h.room, opened := fun k hk => ?_, runs := fun k hk => ?_ }
  · obtain ⟨k', hk', rfl⟩ := hmap hk
    obtain ⟨hlimit, hone, hle, hidle⟩ := h.opened k' hk'
    exact ⟨hlimit, hone, hle, Nat.le_trans (Nat.sub_le _ _) hidle⟩
  · obtain ⟨k', hk', rfl⟩ := hmap hk
    exact h.runs k' hk'

theorem State.StreamsFine.takeIdle {s : State} (h : s.StreamsFine) (p : Port) : (s.takeIdle p).StreamsFine := by
  intro q
  rw [State.takeIdle_get]
  split
  · exact (h q).takeIdle
  · exact h q

end Sys2Proof.Machine
end

section
/-!
SUPPORT. The stream commands leave every stream as it must be (R137, R149, R151, R152, R162, R169 to R174).
-/

namespace Sys2Proof.Machine

/-! ### Settings and table (R136, R137, R149) -/

theorem clampedSettings_legal (b : BendMode) (l : LegatoPolicy) (m : SettingsImage) :
    (clampedSettings b l m).legal = true := by
  have hin {lo hi : Nat} (n : Nat) (hle : lo ≤ hi := by decide) := clampNat_bounds hle n
  obtain ⟨hrange, hrange'⟩ := hin (lo := 1) (hi := 24) m.bendRange.toNat
  obtain ⟨hbend, hbend'⟩ := hin (lo := 1) (hi := 512) m.bendStep.toNat
  obtain ⟨hlevel, hlevel'⟩ := hin (lo := 1) (hi := 32) m.levelStep.toNat
  obtain ⟨hidle, hidle'⟩ := hin (lo := 48) (hi := 48000) m.idleTimeout.toNat
  obtain ⟨hlimit, hlimit'⟩ := limitOf_bounds m.packetLimit.toNat
  obtain ⟨hring, hring'⟩ := hin (lo := 2) (hi := 16) m.ringLength.toNat
  have hhyst := (hin (lo := 0) (hi := 40) m.stepHyst.toNat).2
  exact (Settings.legal_iff _).mpr ⟨⟨hrange, hrange', hhyst, hbend, hbend'⟩, ⟨hlevel, hlevel', hidle, hidle'⟩,
    hlimit, hlimit', hring, hring'⟩

/-- New settings under the layout as it is (R137). -/
theorem Stream.Fine.withSettings {t : Stream} (h : t.Fine) {st : Settings} (hst : st.legal = true)
    (hl : ¬ t.settings.LayoutDiffers st) : (t.withSettings st).Fine := by
  obtain ⟨hlimit, hlength⟩ := not_or.mp hl
  rw [not_not] at hlimit hlength
  exact { h with
    settings := hst
    pos := by simpa [Stream.withSettings, hlength] using h.pos
    room := hlength ▸ h.room
    opened := hlimit ▸ h.opened
    closed := hlimit ▸ h.closed
    full := hlength ▸ h.full }

/-- New settings with no packet in the ring (R137). -/
theorem Stream.Fine.withSettings_of_stopped {t : Stream} (h : t.Fine) {st : Settings} (hst : st.legal = true)
    (hs : t.state = .stopped) (hempty : t.closed = []) : (t.withSettings st).Fine := by
  have ho : t.opened = none := Option.eq_none_iff_forall_ne_some.mpr fun k hk => by
    obtain ⟨hrun, -⟩ := h.runs k hk
    rw [hs] at hrun
    cases hrun
  obtain ⟨-, -, -, -, hring, -⟩ := (Settings.legal_iff _).mp hst
  refine Stream.Sound.fine ?_ ho (by simp [Stream.withSettings, hs]) (h.gap (by simp [hs]))
  refine { h with settings := hst, pos := ?_, room := ?_, opened := ?_, closed := ?_ }
  · simp [Stream.withSettings, Stream.openCount, ho, hempty]
  · show (if t.settings.ringLength = st.ringLength then t.openPos else 0) < st.ringLength
    split
    · next heq => exact heq ▸ h.pos
    · exact Nat.lt_of_lt_of_le Nat.two_pos hring
  · simp [Stream.withSettings, ho]
  · simp [Stream.withSettings, hempty]

theorem filterEntry?_latch {m : FilterImage} {e : FilterEntry} (h : filterEntry? m = some e)
    (hl : e.action = .latch) : e.kinds &&& 7 = 0 := by
  unfold filterEntry? at h
  split at h
  · cases h
  · next a _ =>
    obtain ⟨-, h⟩ := Option.ite_none_left_eq_some.mp h
    obtain ⟨hkinds, ⟨⟩⟩ := Option.ite_none_left_eq_some.mp h
    have hzero : m.kinds.toNat % 8 = 0 := not_not.mp (not_and.mp hkinds hl)
    refine BitVec.eq_of_toNat_eq ?_
    rw [BitVec.toNat_and, BitVec.toNat_setWidth]
    show (m.kinds.toNat % 2 ^ 7) &&& (2 ^ 3 - 1) = 0
    rw [Nat.and_two_pow_sub_one_eq_mod]
    omega

theorem filterTable?_legal : ∀ {l : List FilterImage} {table : List FilterEntry}, filterTable? l = some table →
    table.length = l.length ∧ ∀ e ∈ table, e.action = .latch → e.kinds &&& 7 = 0
  | [], _, rfl => ⟨rfl, nofun⟩
  | m :: l, _, h => by
    rw [filterTable?] at h
    split at h
    · next e table he hl =>
      obtain ⟨hlen, htable⟩ := filterTable?_legal hl
      cases h
      exact ⟨congrArg Nat.succ hlen, List.forall_mem_cons.mpr ⟨filterEntry?_latch he, htable⟩⟩
    · cases h

section
variable {s : State} {p : Port}

theorem State.StreamsFine.doSetStream (h : s.StreamsFine) (m : SettingsImage) :
    (s.doSetStream p m).1.StreamsFine := by
  cases hb : BendMode.ofCode? m.bendMode.toNat with
  | none => simpa [State.doSetStream, hb] using h
  | some b =>
  cases hl : LegatoPolicy.ofCode? m.legatoPolicy.toNat with
  | none => simpa [State.doSetStream, hb, hl] using h
  | some l =>
    by_cases hrefuse : (s.streams.get p).settings.LayoutDiffers (clampedSettings b l m) ∧
        ((s.streams.get p).state ≠ .stopped ∨ (s.streams.get p).closed ≠ [])
    · rw [State.doSetStream_refused hb hl hrefuse.1 hrefuse.2]
      exact h
    · have hset : (s.updStream p fun t => t.withSettings (clampedSettings b l m)).StreamsFine := by
        refine h.updStream fun ht => ?_
        by_cases hlayout : (s.streams.get p).settings.LayoutDiffers (clampedSettings b l m)
        · obtain ⟨hs, hempty⟩ := not_or.mp (not_and.mp hrefuse hlayout)
          exact ht.withSettings_of_stopped (clampedSettings_legal b l m) (not_not.mp hs) (not_not.mp hempty)
        · exact ht.withSettings (clampedSettings_legal b l m) hlayout
      rw [State.doSetStream_taken hb hl hrefuse]
      dsimp only
      split
      · exact (hset.sound p).resync 0
      · exact hset

theorem State.StreamsFine.doSetFilter (h : s.StreamsFine) (l : List FilterImage) :
    (s.doSetFilter p l).1.StreamsFine := by
  unfold State.doSetFilter
  split
  · exact h
  · next hlen =>
    split
    · exact h
    · next table htable =>
      obtain ⟨hlength, hentries⟩ := filterTable?_legal htable
      exact h.updStream fun ht => { ht with table := ⟨hlength ▸ Nat.not_lt.mp hlen, hentries⟩ }

/-! ### Control of the stream (R169 to R174) -/

theorem State.StreamsFine.doStart (h : s.StreamsFine) : (s.doStart p).1.StreamsFine := by
  unfold State.doStart
  split
  · exact (h.sound p).resync 0
  · exact h

theorem State.StreamsFine.doResume (h : s.StreamsFine) : (s.doResume p).1.StreamsFine := by
  unfold State.doResume
  split
  · exact (h.sound p).resync 0
  · exact h

theorem State.StreamsFine.doResync (h : s.StreamsFine) : (s.doResync p).1.StreamsFine := by
  unfold State.doResync
  split
  · exact ((h.closeOpen .resync).sound p).resync 0
  · exact h
  · exact h
  · exact h

/-- Behind a close a stream that is STOPPED or HELD with a gap count of 0 is as it must be (R170, R171). -/
theorem Stream.Fine.ended {t : Stream} (h : t.Fine) (ho : t.opened = none) {st : StreamState} (hs : st ≠ .overflow) :
    Stream.Fine { t with state := st, gap := 0 } :=
  Stream.Sound.fine { h with counts := ⟨Nat.zero_le _, h.counts.2⟩ } ho hs rfl

theorem State.StreamsFine.doStop (h : s.StreamsFine) : (s.doStop p).1.StreamsFine :=
  (h.closeOpen .stop).updStream fun ht => ht.ended (s.closeOpen_opened p .stop) (by simp)

theorem State.StreamsFine.doHold (h : s.StreamsFine) : (s.doHold p).1.StreamsFine := by
  unfold State.doHold
  split
  · next hrun =>
    have hstate : ((s.closeOpen p .hold).streams.get p).state = .running := by
      rw [(s.closeOpen_stream p .hold).1, hrun]
    refine (h.closeOpen .hold).updStream fun ht => ?_
    exact Stream.Sound.fine { ht with } (s.closeOpen_opened p .hold) (by simp) (ht.gap (by simp [hstate]))
  · exact h

theorem Stream.reset_fine : Stream.reset.Fine :=
  Stream.Sound.fine (ho := rfl) (hs := by simp [Stream.reset]) (hg := rfl)
    { settings := rfl
      table := ⟨Nat.zero_le _, nofun⟩
      room := Nat.zero_le _
      pos := by decide
      opened := nofun
      closed := nofun
      seqs := rfl
      view := fun n => (Six.get_of _ n).symm ▸ ViewEntry.none_fine
      counts := ⟨Nat.zero_le _, Nat.zero_le _, Nat.zero_le _⟩ }

theorem Stream.Fine.streamReset {t : Stream} (h : t.Fine) : t.streamReset.Fine := by
  obtain ⟨-, -, -, -, hring, -⟩ := (Settings.legal_iff _).mp h.settings
  refine Stream.Sound.fine ?_ rfl (by simp [Stream.streamReset, Stream.reset]) rfl
  exact { Stream.reset_fine with
    settings := h.settings
    table := h.table
    room := Nat.zero_le _
    pos := Nat.lt_of_lt_of_le Nat.two_pos hring
    opened := nofun
    closed := nofun }

theorem State.StreamsFine.doReset (h : s.StreamsFine) : (s.doReset p).1.StreamsFine :=
  State.StreamsFine.updStream h fun ht => ht.streamReset

/-! ### The ring, the latch slot, cues and counters (R151, R152, R162, R174) -/

/-- The numbers stay consecutive when the oldest packet is taken away. -/
theorem seqsEndAt_of_append {k : ClosedPacket} : ∀ {l : List ClosedPacket} {n : Byte},
    seqsEndAt n (l ++ [k]) = true → seqsEndAt n l = true
  | [], _, _ => rfl
  | _ :: _, _, h => by
    obtain ⟨hseq, hl⟩ := Bool.and_eq_true_iff.mp h
    exact Bool.and_eq_true_iff.mpr ⟨hseq, seqsEndAt_of_append hl⟩

theorem Stream.Sound.freed {t : Stream} (h : t.Sound) {k : ClosedPacket} {l : List ClosedPacket}
    (hl : t.closed = k :: l) : Stream.Sound { t with closed := l } := by
  have hroom := h.room
  have hclosed := h.closed
  have hseqs := h.seqs
  rw [hl] at hroom hclosed hseqs
  rw [List.reverse_cons] at hseqs
  refine { h with room := ?_, closed := (List.forall_mem_cons.mp hclosed).2, seqs := seqsEndAt_of_append hseqs }
  exact Nat.le_trans (Nat.add_le_add_right (Nat.le_succ _) _) hroom

/-- In OVERFLOW a freed packet leads to a resync; in every other state it leaves the stream as it must be. -/
theorem State.FineBut.afterFree (h : s.FineBut p Stream.Sound)
    (hfine : (s.streams.get p).state ≠ .overflow → s.StreamsFine) : (s.afterFree p).StreamsFine := by
  unfold State.afterFree
  split
  · next hs => exact (hfine (by simp [hs])).formCue p
  · exact h.resync _
  · next hs => exact hfine (by simp [hs])
  · next hs => exact hfine (by simp [hs])

theorem State.StreamsFine.doRelease (h : s.StreamsFine) (seq : Byte) : (s.doRelease p seq).1.StreamsFine := by
  unfold State.doRelease
  split
  · exact h
  · next k l hl =>
    split
    · refine State.FineBut.afterFree ((h.sound p).updStream fun ht => ht.freed hl) fun hs => ?_
      rw [State.updStream_same] at hs
      exact h.updStream fun ht => { ht.freed hl with
        full := fun hover => absurd hover hs
        runs := ht.runs
        gap := ht.gap }
    · exact h

theorem State.StreamsFine.doFetch (h : s.StreamsFine) : (s.doFetch p).1.StreamsFine := by
  unfold State.doFetch
  split <;> exact h

theorem State.StreamsFine.doReadLatch (h : s.StreamsFine) : (s.doReadLatch p).1.StreamsFine := by
  unfold State.doReadLatch
  split
  · exact h
  · exact State.StreamsFine.updStream h fun ht => { ht with }

theorem State.StreamsFine.postTo (h : s.StreamsFine) (named : Bool) (q source : Port) (code : Half) :
    (s.postTo named q source code).1.StreamsFine := by
  have hqueued : (s.updStream q fun t => { t with cue := some ⟨source, code⟩ }).StreamsFine :=
    h.updStream fun ht => { ht with }
  unfold State.postTo
  dsimp only
  split
  · exact h
  split
  · exact h
  split
  · exact h
  · exact hqueued.formCue q

theorem State.StreamsFine.doPostCue (h : s.StreamsFine) (d : Byte) (code : Half) :
    (s.doPostCue p d code).1.StreamsFine := by
  unfold State.doPostCue
  split
  · exact h
  · exact (h.postTo _ .a p code).postTo _ .b p code

theorem State.StreamsFine.doClearPortCounters (h : s.StreamsFine) : (s.doClearPortCounters p).1.StreamsFine :=
  State.StreamsFine.updStream h fun ht => { ht with counts := ⟨ht.counts.1, Nat.zero_le _, Nat.zero_le _⟩ }

end

end Sys2Proof.Machine
end

section
/-!
PROOF. Every step leaves the Stream Units as they must be (R134, R136, R156, R157, R158, R163, R164).
-/

namespace Sys2Proof.Machine

/-! ### What the other blocks do -/

/-- Whether a stream is as it must be does not hang on the publications that wait. -/
theorem Stream.fine_iff_ring (t : Stream) : t.Fine ↔ t.ring.Fine := by
  rw [← Stream.ok_iff, ← Stream.ok_iff]
  exact Iff.rfl

/-- What keeps each ring keeps the streams as they must be. -/
theorem State.StreamsFine.of_rings {s t : State} (h : s.StreamsFine)
    (hring : ∀ q, (t.streams.get q).ring = (s.streams.get q).ring) : t.StreamsFine := fun q => by
  rw [Stream.fine_iff_ring, hring q, ← Stream.fine_iff_ring]
  exact h q

theorem State.StreamsFine.of_eq {s t : State} (h : s.StreamsFine) (heq : t.streams = s.streams) : t.StreamsFine :=
  h.of_rings fun q => by rw [heq]

theorem State.StreamsFine.finishSet {s : State} (h : s.StreamsFine) : s.finishSet.StreamsFine :=
  h.of_rings fun q => (s.finishSet_ring q).1

theorem State.StreamsFine.conversionSet {s : State} (h : s.StreamsFine) (pins : SetInputs) (order : SetOrder) :
    (s.conversionSet pins order).StreamsFine := fun q => by
  rw [Stream.fine_iff_ring, State.conversionSet_ring, ← Stream.fine_iff_ring]
  exact (h q).takeIdle.countIdle

/-! ### The owners outside the Stream Units -/

theorem State.doSetClock_streams (s : State) (b : Byte) : (s.doSetClock b).1.streams = s.streams := by
  unfold State.doSetClock
  repeat' split
  all_goals simp

theorem State.doReadProfile_streams (s : State) (b n : Byte) : (s.doReadProfile b n).1.streams = s.streams := by
  unfold State.doReadProfile
  split <;> rfl

theorem State.doEditProfile_streams (s : State) (p : Port) (b n : Byte) (base : Half) (m : ProfileImage) :
    (s.doEditProfile p b n base m).1.streams = s.streams := by
  unfold State.doEditProfile
  dsimp only
  repeat' split
  all_goals simp

theorem State.doEditGlobal_ring (s : State) (p : Port) (base : Half) (m : GlobalImage) (q : Port) :
    ((s.doEditGlobal p base m).1.streams.get q).ring = (s.streams.get q).ring := by
  unfold State.doEditGlobal
  dsimp only
  repeat' split
  all_goals simp

theorem State.doSelectBank_ring (s : State) (mask bank : Byte) (q : Port) :
    ((s.doSelectBank mask bank).1.streams.get q).ring = (s.streams.get q).ring := by
  unfold State.doSelectBank
  split
  · rfl
  · split
    · rfl
    · exact State.forStrings_keeps (fun t => (t.streams.get q).ring) s _ fun n t => by split <;> simp

/-- The commands of the link monitor. -/
@[simp] theorem State.linkCommands_ring (s : State) (q : Port) :
    (s.doRetrain.1.streams.get q).ring = (s.streams.get q).ring ∧
    (s.doDisable.1.streams.get q).ring = (s.streams.get q).ring ∧
    (s.doEnable.1.streams.get q).ring = (s.streams.get q).ring ∧
    (s.doExpectRemoval.1.streams.get q).ring = (s.streams.get q).ring := by
  unfold State.doRetrain State.doDisable State.doEnable State.doExpectRemoval
  refine ⟨?_, ?_, ?_, ?_⟩
  all_goals
    repeat' split
    all_goals simp [linkRefusal]

theorem State.armEnd_streams (s : State) : s.armEnd.streams = s.streams := by
  unfold State.armEnd
  split <;> simp

theorem State.takeLearnCommit_streams (s : State) : s.takeLearnCommit.streams = s.streams := by
  unfold State.takeLearnCommit
  dsimp only
  repeat' split
  all_goals simp

theorem State.captureEnd_streams (s : State) : s.captureEnd.streams = s.streams := by
  unfold State.captureEnd
  dsimp only
  repeat' split
  all_goals simp

theorem State.doLearnStart_streams (s : State) (p : Port) (n b : Byte) (base : Half) :
    (s.doLearnStart p n b base).1.streams = s.streams := by
  unfold State.doLearnStart
  repeat' split
  all_goals simp

theorem State.doLearnAbort_streams (s : State) (p : Port) : (s.doLearnAbort p).1.streams = s.streams := by
  unfold State.doLearnAbort
  split <;> simp

/-! ### The rows -/

/-- The row answers states in which the streams are as they must be. -/
def AnswersStreamsFine (r : Result) : Prop := ∀ t, r = .next t → t.StreamsFine

theorem answersStreamsFine_next {t : State} (h : t.StreamsFine) : AnswersStreamsFine (.next t) := fun _ ht =>
  Host.Outcome.next.inj ht ▸ h

theorem answersStreamsFine_if {s t : State} (c : Prop) [Decidable c] (hs : s.StreamsFine) (ht : t.StreamsFine) :
    AnswersStreamsFine (if c then .next t else .next s) := by
  split
  · exact answersStreamsFine_next ht
  · exact answersStreamsFine_next hs

section
variable {s : State}

/-- A frame meets a finished set, and what its owner makes of it is answered. -/
theorem answersStreamsFine_frame (h : s.StreamsFine) (p : Port) (n : Nat) {owner : State → State × Response}
    (howner : ∀ t : State, t.StreamsFine → (owner t).1.StreamsFine) :
    AnswersStreamsFine (.next (s.frame p n owner)) := by
  refine answersStreamsFine_next ?_
  unfold State.frame
  dsimp only
  split
  · split
    · exact h
    · exact howner _ h.finishSet
  · exact h

theorem State.StreamsFine.ownAnswer (h : s.StreamsFine) (p : Port) (n : Nat) (st : Status) :
    (s.ownAnswer p n st).StreamsFine := by
  unfold State.ownAnswer
  dsimp only
  split <;> exact h

theorem State.StreamsFine.updPort (h : s.StreamsFine) (p : Port) (f : PortIf → PortIf) :
    (s.updPort p f).StreamsFine := h

theorem State.streamsFine_powerOn (s : State) : s.powerOn.StreamsFine := fun q => by
  rw [State.powerOn_streams]
  exact Stream.reset_fine

theorem answersStreamsFine_partReset (h : s.StreamsFine) (p : Port) : AnswersStreamsFine (execPartReset p s) := by
  unfold execPartReset
  dsimp only
  split
  · split
    · exact answersStreamsFine_next h
    · exact answersStreamsFine_next s.streamsFine_powerOn
  · exact answersStreamsFine_next h

theorem answersStreamsFine_unknownCommand (h : s.StreamsFine) (p : Port) (code : Byte) (args : List Byte) :
    AnswersStreamsFine (execUnknownCommand p code args s) := by
  unfold execUnknownCommand
  split
  · exact answersStreamsFine_frame h p _ fun _ ht => ht
  · exact answersStreamsFine_next (h.ownAnswer p _ _)

/-- Every row leaves the streams as they must be. -/
theorem exec_streamsFine (c : Instr) (h : s.StreamsFine) : AnswersStreamsFine (exec c s) := by
  have hrings {t : State} (ht : ∀ q, (t.streams.get q).ring = (s.streams.get q).ring) :
      AnswersStreamsFine (.next t) := answersStreamsFine_next (h.of_rings ht)
  have hif (c : Prop) [Decidable c] {t : State} (ht : ∀ q, (t.streams.get q).ring = (s.streams.get q).ring) :
      AnswersStreamsFine (if c then .next t else .next s) := answersStreamsFine_if c h (h.of_rings ht)
  have hset {t : State} (ht : ∀ q, (t.streams.get q).ring = (s.finishSet.streams.get q).ring) :
      AnswersStreamsFine (.next t) := answersStreamsFine_next (h.finishSet.of_rings ht)
  have hkept {t : State} (ht : t.streams = s.finishSet.streams) : AnswersStreamsFine (.next t) :=
    answersStreamsFine_next (h.finishSet.of_eq ht)
  have hlink (t : State) (k : Link) : ({ t with link := k } : State).streams = t.streams := rfl
  have howner (p : Port) (n : Nat) {owner : State → State × Response}
      (ho : ∀ t : State, t.StreamsFine → (owner t).1.StreamsFine) :
      AnswersStreamsFine (.next (s.frame p n owner)) := answersStreamsFine_frame h p n ho
  cases c with
  | powerOn => exact answersStreamsFine_next s.streamsFine_powerOn
  | partReset p => exact answersStreamsFine_partReset h p
  | conversionSet src pins order => exact answersStreamsFine_if _ h (h.conversionSet pins order)
  | stuckEpisodeBegin i => exact hrings (by simp)
  | stuckLong i => exact hif _ (by simp)
  | auxEvaluation x => exact hif _ (by simp)
  | digitalAuxPublish x => exact hif _ (by simp)
  | settleWindowEnd => exact hif _ (by simp)
  | stall n | onsetTimeout n | releaseTimerEnd n | levelTimer n => exact hrings (by simp)
  | wordClockLoss => exact hset (by simp)
  | presChange level => exact hkept (hlink _ _)
  | presenceBecomesTrue => exact hset (by simp)
  | presenceBecomesFalse => exact hset (by simp)
  | powerUpDelayEnd => exact hset (by simp)
  | overCurrent => exact hset (by simp)
  | armTimerExpiry => exact hkept (State.armEnd_streams _)
  | captureEnd => exact hrings fun q => by rw [State.captureEnd_streams]
  | learnCommit => exact hkept (State.takeLearnCommit_streams _)
  | publicationTaken p m => exact answersStreamsFine_next (h.takePublication m)
  | idleTimerExpiry p => exact answersStreamsFine_next (h.takeIdle p)
  | csFall p | csRise p | responseReady p => exact answersStreamsFine_next h
  | unknownCommand p code args => exact answersStreamsFine_unknownCommand h p code args
  | malformedFrame p code args => exact answersStreamsFine_next (h.ownAnswer p _ _)
  | busyFrame p code args => exact answersStreamsFine_if _ h (h.ownAnswer p _ _)
  | identify p | readStatus p | readFloors p | learnStatus p | readStream p => exact howner p _ fun t ht => ht
  | readContext p n | readCounters p n m => exact howner p _ fun t ht => ht
  | setClock p choice => exact howner p _ fun t ht => ht.of_eq (t.doSetClock_streams _)
  | clearFlags p word | setAttnMask p word => exact howner p _ fun t ht => ht
  | readProfile p b n => exact howner p _ fun t ht => ht.of_eq (t.doReadProfile_streams _ _)
  | editProfile p b n base m => exact howner p _ fun t ht => ht.of_eq (t.doEditProfile_streams _ _ _ _ _)
  | readGlobal p => exact howner p _ fun t ht => ht
  | editGlobal p base m => exact howner p _ fun t ht => ht.of_rings (t.doEditGlobal_ring _ _ _)
  | selectBank p m b => exact howner p _ fun t ht => ht.of_rings (t.doSelectBank_ring _ _)
  | retrain p => exact howner p _ fun t ht => ht.of_rings (by simp)
  | disable p => exact howner p _ fun t ht => ht.of_rings (by simp)
  | enable p => exact howner p _ fun t ht => ht.of_rings (by simp)
  | expectRemoval p => exact howner p _ fun t ht => ht.of_rings (by simp)
  | learnStart p n b base => exact howner p _ fun t ht => ht.of_eq (t.doLearnStart_streams _ _ _ _)
  | learnAbort p => exact howner p _ fun t ht => ht.of_eq (t.doLearnAbort_streams _)
  | setStream p m => exact howner p _ fun t ht => ht.doSetStream m
  | setFilter p l => exact howner p _ fun t ht => ht.doSetFilter l
  | readFilter p => exact howner p _ fun t ht => ht
  | streamStart p => exact howner p _ fun t ht => ht.doStart
  | streamStop p => exact howner p _ fun t ht => ht.doStop
  | streamHold p => exact howner p _ fun t ht => ht.doHold
  | streamResume p => exact howner p _ fun t ht => ht.doResume
  | streamResync p => exact howner p _ fun t ht => ht.doResync
  | streamReset p => exact howner p _ fun t ht => ht.doReset
  | fetch p => exact howner p _ fun t ht => ht.doFetch
  | release p q => exact howner p _ fun t ht => ht.doRelease q
  | readLatch p => exact howner p _ fun t ht => ht.doReadLatch
  | postCue p d code => exact howner p _ fun t ht => ht.doPostCue d code
  | readPortCounters p => exact howner p _ fun t ht => ht
  | clearPortCounters p => exact howner p _ fun t ht => ht.doClearPortCounters

/-! ### The step -/

theorem answersStreamsFine_clockByte (h : s.StreamsFine) (p : Port) (b : Byte) :
    AnswersStreamsFine (s.clockByte p b) := by
  unfold State.clockByte
  dsimp only
  split
  · exact answersStreamsFine_next h
  split
  · split
    · exact exec_streamsFine _ h
    · exact answersStreamsFine_next h
  · exact answersStreamsFine_next h

theorem answersStreamsFine_idle (h : s.StreamsFine) : AnswersStreamsFine s.idle := by
  unfold State.idle
  split
  · exact answersStreamsFine_clockByte (h.updPort .a _) .a _
  · exact answersStreamsFine_clockByte (h.updPort .b _) .b _
  · exact answersStreamsFine_next (h.of_rings s.tick_ring)

end

/-- Settles O60: what the other blocks do keeps each ring, and each stream operation keeps the invariant part by
part; within a command only what does not hang on the stream state is kept. -/
theorem stepsKeepStreams : Obligations.StepsKeepStreams := by
  intro s t hok ht
  have hfine := s.streamsOk_iff.mp hok
  refine t.streamsOk_iff.mpr ?_
  unfold step at ht
  split at ht
  · exact answersStreamsFine_idle hfine t ht
  · next c rest _ => exact exec_streamsFine (s := { s with pending := rest }) c hfine t ht

end Sys2Proof.Machine
end

section
/-!
PROOF. STREAM_CONTROL: the six commands in every stream state, and the subcommands that name none of them (R168 to
R173).
-/

namespace Sys2Proof.Machine

/-! ### The stream commands (R169 to R173) -/

theorem exec_streamStart (p : Port) (s : State) :
    exec (.streamStart p) s = .next (s.frame p 1 fun t => t.doStart p) := rfl

theorem exec_streamStop (p : Port) (s : State) :
    exec (.streamStop p) s = .next (s.frame p 1 fun t => t.doStop p) := rfl

theorem exec_streamHold (p : Port) (s : State) :
    exec (.streamHold p) s = .next (s.frame p 1 fun t => t.doHold p) := rfl

theorem exec_streamResume (p : Port) (s : State) :
    exec (.streamResume p) s = .next (s.frame p 1 fun t => t.doResume p) := rfl

theorem exec_streamResync (p : Port) (s : State) :
    exec (.streamResync p) s = .next (s.frame p 1 fun t => t.doResync p) := rfl

theorem exec_streamReset (p : Port) (s : State) :
    exec (.streamReset p) s = .next (s.frame p 1 fun t => t.doReset p) := rfl

/-- A command that is taken, behind its transition, and one that is refused (R168, R179). -/
theorem streamOk_eq (s : State) (p : Port) :
    streamOk s p = (s, ⟨.ok, [BitVec.ofNat 8 (s.streams.get p).state.code]⟩) := rfl

theorem streamRefusal_eq (s : State) (p : Port) :
    streamRefusal s p = (s, ⟨.state, [BitVec.ofNat 8 (s.streams.get p).state.code]⟩) := rfl

/-- A command that only some stream states take: OK behind its transition `u`, or STATE with nothing changed
(R168). -/
theorem State.frame_streamOk_or_refusal {s u : State} {p : Port} {owner : State → State × Response} {c : Prop}
    [Decidable c] (h : s.ready p = true)
    (howner : owner s = if c then streamOk u p else streamRefusal s p) : s.frame p 1 owner =
      if c then u.awaits p 1 .ok [BitVec.ofNat 8 (u.streams.get p).state.code]
      else s.awaits p 1 .state [BitVec.ofNat 8 (s.streams.get p).state.code] := by
  rw [State.frame_of_ready 1 _ h, howner]
  split
  · rw [streamOk_eq]
  · rw [streamRefusal_eq]

theorem streamStartResumeResync : Claims.StreamStartResumeResync := by
  intro p s h code refused taken
  refine ⟨?_, ?_, ?_⟩
  · rw [exec_streamStart, State.frame_streamOk_or_refusal h rfl]
    exact apply_ite Host.Outcome.next ..
  · rw [exec_streamResume, State.frame_streamOk_or_refusal h rfl]
    exact apply_ite Host.Outcome.next ..
  · rw [exec_streamResync, State.frame_of_ready 1 _ h, State.doResync]
    cases (s.streams.get p).state with
    | running | overflow => simp only [streamOk_eq]; rfl
    | stopped | held => simp only [streamRefusal_eq]; rfl

/-- The four flags that RESET clears are bits 0 to 3 of the flag word (R173, R182). -/
theorem clearIn_streamFlags (w : Half) : clearIn w streamFlags = w &&& 0xFFF0 := rfl

theorem streamStopHoldReset : Claims.StreamStopHoldReset := by
  intro p s h
  refine ⟨?_, ?_, ?_⟩
  · rw [exec_streamStop, State.frame_of_ready 1 _ h, State.doStop, streamOk_eq, State.updStream_same]
    rfl
  · rw [exec_streamHold, State.frame_streamOk_or_refusal h rfl, State.updStream_same]
    rfl
  · rw [exec_streamReset, State.frame_of_ready 1 _ h, State.doReset, streamOk_eq, State.updPort_streams,
      State.updStream_same]
    simp only [clearIn_streamFlags]
    rfl

/-! ### The subcommands (R168) -/

theorem streamCommand?_eq_none (p : Port) {b : Byte} (h : 6 ≤ b.toNat) : streamCommand? p b = none := by
  unfold streamCommand?
  split
  case h_7 => rfl
  all_goals omega

/-- The command of a STREAM_CONTROL frame is the one of its subcommand (R168, R181). -/
theorem frameRow_streamControl (p : Port) (b : Byte) :
    frameRow p 0x64 [b] = (streamCommand? p b).getD (.unknownCommand p 0x64 [b]) := rfl

/-- A frame of one argument byte with a subcommand that names nothing is refused INVALID (R30, R168). -/
theorem exec_unknownCommand_of_badSubcommand {p : Port} {code b : Byte} {s : State}
    (hbad : badSubcommand code [b] = true) (h : s.ready p = true) :
    exec (.unknownCommand p code [b]) s = .next (s.awaits p 1 .invalid []) := by
  have hexec : exec (.unknownCommand p code [b]) s =
      .next (s.frame p 1 fun t => (t, refuse .invalid)) := if_pos hbad
  rw [hexec, State.frame_of_ready 1 _ h]
  rfl

theorem streamControlSubcommands : Claims.StreamControlSubcommands := by
  intro p b
  have hrow {c : Instr} (hc : streamCommand? p b = some c) : frameRow p 0x64 [b] = c := by
    rw [frameRow_streamControl, hc, Option.getD_some]
  refine ⟨fun hb => hrow (hb ▸ rfl), fun hb => hrow (hb ▸ rfl), fun hb => hrow (hb ▸ rfl), fun hb => hrow (hb ▸ rfl),
    fun hb => hrow (hb ▸ rfl), fun hb => hrow (hb ▸ rfl), fun hb => ⟨?_, fun s h => ?_⟩⟩
  · rw [frameRow_streamControl, streamCommand?_eq_none p hb, Option.getD_none]
  · exact exec_unknownCommand_of_badSubcommand (by simp [badSubcommand, streamControlCode, hb]) h

/-- Settles O48: each command is a transition that is taken or a refusal with the state, and every other subcommand
comes under the row UNKNOWN_COMMAND. -/
theorem streamControl : Obligations.StreamControl :=
  ⟨streamStartResumeResync, streamStopHoldReset, streamControlSubcommands⟩

end Sys2Proof.Machine
end

section
/-!
SUPPORT. No operation of the part reads or changes anything of a Port Interface but its ten flags. It is said as an
equation: the operation makes of the part with other Port Interfaces, but the same ten flags, what it makes of the
part itself, with those Port Interfaces. So it gives both what an operation leaves of the ports and what it does
not hang on. The two words are the Port Interface's own commands' (R184, R185), which come behind.
-/

namespace Sys2Proof.Machine

/-- A Port Interface with the ten flags of a flag word (R183). -/
def PortIf.flagged (q : PortIf) (w : Half) : PortIf :=
  { q with flags := (q.flags &&& ~~~flagBits) ||| (w &&& flagBits) }

/-- The part with these Port Interfaces, but for the ten flags, which stay as they are. -/
def State.seat (s : State) (r : Two PortIf) : State :=
  { s with ports := ⟨r.a.flagged s.ports.a.flags, r.b.flagged s.ports.b.flags⟩ }

section
variable (s : State) (r : Two PortIf)

/-! ### What the Port Interfaces are no part of -/

@[simp] theorem State.seat_siu : (s.seat r).siu = s.siu := rfl
@[simp] theorem State.seat_link : (s.seat r).link = s.link := rfl
@[simp] theorem State.seat_cond : (s.seat r).cond = s.cond := rfl
@[simp] theorem State.seat_trackers : (s.seat r).trackers = s.trackers := rfl
@[simp] theorem State.seat_store : (s.seat r).store = s.store := rfl
@[simp] theorem State.seat_learn : (s.seat r).learn = s.learn := rfl
@[simp] theorem State.seat_streams : (s.seat r).streams = s.streams := rfl
@[simp] theorem State.seat_phase : (s.seat r).phase = s.phase := rfl
@[simp] theorem State.seat_pending : (s.seat r).pending = s.pending := rfl

/-- A change of the other fields alone. -/
@[simp] theorem State.seat_mk (siu link cond trackers store learn streams phase pending) :
    State.mk siu link cond trackers store learn streams (s.seat r).ports phase pending =
      (State.mk siu link cond trackers store learn streams s.ports phase pending).seat r := rfl

@[simp] theorem State.seat_updTracker (n f) : (s.seat r).updTracker n f = (s.updTracker n f).seat r := rfl
@[simp] theorem State.seat_updStream (p f) : (s.seat r).updStream p f = (s.updStream p f).seat r := rfl
@[simp] theorem State.seat_publish (m u) : (s.seat r).publish m u = (s.publish m u).seat r := rfl
@[simp] theorem State.seat_linkNotice (c a b) : (s.seat r).linkNotice c a b = (s.linkNotice c a b).seat r := rfl

theorem State.seat_forStrings (f : StringNo → State → State)
    (h : ∀ n t, f n (State.seat t r) = (f n t).seat r) :
    (s.seat r).forStrings f = (s.forStrings f).seat r := by
  simp [State.forStrings, StringNo.all, h]

/-! ### Flags -/

/-- A change of a flag word that bears on the ten flags alone. -/
theorem State.seat_updFlags {g : Half → Half}
    (hg : ∀ (q : PortIf) (w : Half), g (q.flagged w).flags = (q.flagged (g w)).flags) (p : Port) :
    ((s.seat r).updPort p fun q => { q with flags := g q.flags }) =
      (s.updPort p fun q => { q with flags := g q.flags }).seat r := by
  have hport (q : PortIf) (w : Half) : { q.flagged w with flags := g (q.flagged w).flags } = q.flagged (g w) := by
    rw [hg]
    rfl
  cases p
  · exact congrArg (fun q => ({ s.seat r with ports := ⟨q, (s.seat r).ports.b⟩ } : State)) (hport r.a _)
  · exact congrArg (fun q => ({ s.seat r with ports := ⟨(s.seat r).ports.a, q⟩ } : State)) (hport r.b _)

/-- A flag that is raised is one of the ten. -/
theorem PortIf.flagged_raiseIn (q : PortIf) (w : Half) (f : Flag) :
    raiseIn (q.flagged w).flags f = (q.flagged (raiseIn w f)).flags := by
  have hf : f.word &&& flagBits = f.word := by cases f <;> decide
  simp only [PortIf.flagged, raiseIn]
  rw [BitVec.and_or_distrib_right, hf, BitVec.or_assoc]

/-- Clearing ignores the bits above the ten (R184). -/
theorem PortIf.flagged_clearIn (q : PortIf) (w x : Half) :
    clearIn (q.flagged w).flags x = (q.flagged (clearIn w x)).flags := by
  simp only [clearIn, PortIf.flagged]
  ext i hi
  simp only [BitVec.getElem_and, BitVec.getElem_or, BitVec.getElem_not]
  cases flagBits[i] <;> simp

@[simp] theorem State.seat_raise (p f) : (s.seat r).raise p f = (s.raise p f).seat r :=
  s.seat_updFlags r (g := (raiseIn · f)) (fun q w => q.flagged_raiseIn w f) p

@[simp] theorem State.seat_clearIn (p : Port) (x : Half) :
    ((s.seat r).updPort p fun q => { q with flags := clearIn q.flags x }) =
      (s.updPort p fun q => { q with flags := clearIn q.flags x }).seat r :=
  s.seat_updFlags r (g := (clearIn · x)) (fun q w => q.flagged_clearIn w x) p

@[simp] theorem State.seat_raiseBoth (f) : (s.seat r).raiseBoth f = (s.raiseBoth f).seat r := by
  simp [State.raiseBoth]

/-! ### Trackers -/

@[simp] theorem State.seat_publishTrack (n k) : (s.seat r).publishTrack n k = (s.publishTrack n k).seat r := by
  unfold State.publishTrack
  dsimp only
  split <;> simp_all

@[simp] theorem State.seat_adoptBank (n) : (s.seat r).adoptBank n = (s.adoptBank n).seat r := by
  unfold State.adoptBank
  dsimp only
  split <;> simp_all

@[simp] theorem State.seat_takeCopy (n) : (s.seat r).takeCopy n = (s.takeCopy n).seat r := rfl

@[simp] theorem State.seat_enterSilent (n) : (s.seat r).enterSilent n = (s.enterSilent n).seat r := by
  simp [State.enterSilent]

@[simp] theorem State.seat_enterMuted (n c) : (s.seat r).enterMuted n c = (s.enterMuted n c).seat r := by
  unfold State.enterMuted
  split <;> simp_all

@[simp] theorem State.seat_leaveMuted (n) : (s.seat r).leaveMuted n = (s.leaveMuted n).seat r := by
  unfold State.leaveMuted
  split <;> simp_all

@[simp] theorem State.seat_ghost (n) : (s.seat r).ghost n = (s.ghost n).seat r := by simp [State.ghost]

@[simp] theorem State.seat_takeStall (n) : (s.seat r).takeStall n = (s.takeStall n).seat r := by
  unfold State.takeStall
  split <;> simp_all

@[simp] theorem State.seat_takeTimeout (n) : (s.seat r).takeTimeout n = (s.takeTimeout n).seat r := by
  unfold State.takeTimeout
  split <;> simp_all

@[simp] theorem State.seat_takeRelease (n) : (s.seat r).takeRelease n = (s.takeRelease n).seat r := by
  unfold State.takeRelease
  split <;> simp_all

@[simp] theorem State.seat_takeLevel (n) : (s.seat r).takeLevel n = (s.takeLevel n).seat r := by
  unfold State.takeLevel
  split <;> simp_all

@[simp] theorem State.seat_finishTracker (n) : (s.seat r).finishTracker n = (s.finishTracker n).seat r := by
  simp [State.finishTracker]

@[simp] theorem State.seat_finishTrackers : (s.seat r).finishTrackers = s.finishTrackers.seat r := by
  simp [State.finishTrackers, State.seat_forStrings]

@[simp] theorem State.seat_clearHistories : (s.seat r).clearHistories = s.clearHistories.seat r :=
  State.seat_forStrings s r _ fun _ _ => rfl

@[simp] theorem State.seat_startNote (n v) : (s.seat r).startNote n v = (s.startNote n v).seat r := by
  simp [State.startNote]

@[simp] theorem State.seat_sampleOnset (n k v) :
    (s.seat r).sampleOnset n k v = (s.sampleOnset n k v).seat r := by
  unfold State.sampleOnset
  simp only [State.seat_updTracker, State.seat_trackers]
  repeat' split
  all_goals simp_all

@[simp] theorem State.seat_accept (n v) : (s.seat r).accept n v = (s.accept n v).seat r := by
  unfold State.accept
  simp only [State.seat_trackers]
  repeat' split
  all_goals simp_all

@[simp] theorem State.seat_acceptIf (n v) : (s.seat r).acceptIf n v = (s.acceptIf n v).seat r := by
  unfold State.acceptIf
  split <;> simp_all

@[simp] theorem State.seat_advanceLevel (n) : (s.seat r).advanceLevel n = (s.advanceLevel n).seat r := rfl

/-! ### The Learn Engine and the store of a record -/

@[simp] theorem State.seat_endLearn (t a) : (s.seat r).endLearn t a = (s.endLearn t a).seat r := by
  simp [State.endLearn]

@[simp] theorem State.seat_failLearn (a) : (s.seat r).failLearn a = (s.failLearn a).seat r := by
  unfold State.failLearn
  split <;> simp_all

@[simp] theorem State.seat_learnOnset (n) : (s.seat r).learnOnset n = (s.learnOnset n).seat r := by
  unfold State.learnOnset
  rw [State.seat_learn, State.seat_failLearn]
  repeat' split
  all_goals rfl

@[simp] theorem State.seat_learnLinkLost : (s.seat r).learnLinkLost = s.learnLinkLost.seat r := by
  simp [State.learnLinkLost]

@[simp] theorem State.seat_learnDropped (n) : (s.seat r).learnDropped n = (s.learnDropped n).seat r := by
  unfold State.learnDropped
  repeat' split
  all_goals simp_all

@[simp] theorem State.seat_learnProfileCommit (k n) :
    (s.seat r).learnProfileCommit k n = (s.learnProfileCommit k n).seat r := by
  unfold State.learnProfileCommit
  repeat' split
  all_goals simp_all

@[simp] theorem State.seat_learnGlobalCommit (a b) :
    (s.seat r).learnGlobalCommit a b = (s.learnGlobalCommit a b).seat r := by
  unfold State.learnGlobalCommit
  simp only [State.seat_learn]
  repeat' split
  all_goals simp_all

@[simp] theorem State.seat_learnTaps (a b c) : (s.seat r).learnTaps a b c = (s.learnTaps a b c).seat r := by
  unfold State.learnTaps
  rw [State.seat_learn]
  split <;> rfl

@[simp] theorem State.seat_captureEnd : (s.seat r).captureEnd = s.captureEnd.seat r := by
  unfold State.captureEnd
  rw [State.seat_learn]
  split
  · simp only [State.seat_endLearn]
    repeat' split
    all_goals rfl
  · rfl

@[simp] theorem State.seat_armLearn (t) : (s.seat r).armLearn t = (s.armLearn t).seat r := rfl

@[simp] theorem State.seat_storeProfile (k n x) :
    (s.seat r).storeProfile k n x = (s.storeProfile k n x).seat r := rfl

@[simp] theorem State.seat_takeLearnCommit : (s.seat r).takeLearnCommit = s.takeLearnCommit.seat r := by
  unfold State.takeLearnCommit
  simp only [State.seat_learn, State.seat_store]
  repeat' split
  all_goals simp_all

/-! ### A sample of a tracker -/

@[simp] theorem State.seat_beginOnset (n k) : (s.seat r).beginOnset n k = (s.beginOnset n k).seat r := by
  simp [State.beginOnset]

@[simp] theorem State.seat_repick (n k) : (s.seat r).repick n k = (s.repick n k).seat r := by
  simp [State.repick]

@[simp] theorem State.seat_sampleSounding (n k v) :
    (s.seat r).sampleSounding n k v = (s.sampleSounding n k v).seat r := by
  unfold State.sampleSounding
  split <;> simp_all

@[simp] theorem State.seat_sampleReleasing (n k v) :
    (s.seat r).sampleReleasing n k v = (s.sampleReleasing n k v).seat r := by
  unfold State.sampleReleasing
  dsimp only
  repeat' split
  all_goals simp_all

@[simp] theorem State.seat_trackerSample (n y) :
    (s.seat r).trackerSample n y = (s.trackerSample n y).seat r := by
  unfold State.trackerSample
  dsimp only
  repeat' split
  all_goals simp_all

/-! ### The Sense Input Unit -/

@[simp] theorem State.seat_updInput (i f) : (s.seat r).updInput i f = (s.updInput i f).seat r := rfl

@[simp] theorem State.seat_takeEpisode (i) : (s.seat r).takeEpisode i = (s.takeEpisode i).seat r := by
  unfold State.takeEpisode
  split <;> simp_all

@[simp] theorem State.seat_updAux (x f) : (s.seat r).updAux x f = (s.updAux x f).seat r := by
  cases x <;> rfl

@[simp] theorem State.seat_auxDue (x) : (s.seat r).auxDue x = s.auxDue x := rfl

@[simp] theorem State.seat_digitalDue (x) : (s.seat r).digitalDue x = s.digitalDue x := rfl

@[simp] theorem State.seat_takeAux (x) : (s.seat r).takeAux x = (s.takeAux x).seat r := by
  unfold State.takeAux
  dsimp only
  repeat' split
  all_goals simp_all

@[simp] theorem State.seat_takeDigital (x) : (s.seat r).takeDigital x = (s.takeDigital x).seat r := by
  unfold State.takeDigital
  dsimp only
  repeat' split
  all_goals simp_all

@[simp] theorem State.seat_finishAux (x) : (s.seat r).finishAux x = (s.finishAux x).seat r := by
  simp [State.finishAux]

@[simp] theorem State.seat_auxBefore (x) : (s.seat r).auxBefore x = (s.auxBefore x).seat r := by
  unfold State.auxBefore
  split <;> simp_all

@[simp] theorem State.seat_siuRoles (a b) : (s.seat r).siuRoles a b = (s.siuRoles a b).seat r := rfl

@[simp] theorem State.seat_chooseClock (c) : (s.seat r).chooseClock c = (s.chooseClock c).seat r := by
  cases c <;> simp [State.chooseClock]

@[simp] theorem State.seat_loseWordClock : (s.seat r).loseWordClock = s.loseWordClock.seat r := by
  simp [State.loseWordClock]

/-! ### The link monitor -/

@[simp] theorem State.seat_leaveActive : (s.seat r).leaveActive = s.leaveActive.seat r := by
  simp [State.leaveActive, State.seat_forStrings]

@[simp] theorem State.seat_enterLink (l) : (s.seat r).enterLink l = (s.enterLink l).seat r := by
  unfold State.enterLink
  repeat' split
  all_goals simp_all

@[simp] theorem State.seat_enterLinkNoticed (l) :
    (s.seat r).enterLinkNoticed l = (s.enterLinkNoticed l).seat r := by
  simp [State.enterLinkNoticed]

@[simp] theorem State.seat_measureWindow (d) : (s.seat r).measureWindow d = (s.measureWindow d).seat r := by
  unfold State.measureWindow
  split <;> simp_all

@[simp] theorem State.seat_setFloors : (s.seat r).setFloors = s.setFloors.seat r := rfl

@[simp] theorem State.seat_usable (n) : (s.seat r).usable n = s.usable n := rfl

@[simp] theorem State.seat_releaseUsable : (s.seat r).releaseUsable = s.releaseUsable.seat r :=
  State.seat_forStrings s r _ fun _ _ => by split <;> simp_all

@[simp] theorem State.seat_usableCount : (s.seat r).usableCount = s.usableCount := rfl

@[simp] theorem State.seat_setWidth : (s.seat r).setWidth = s.setWidth.seat r := rfl

@[simp] theorem State.seat_markWindowEnd : (s.seat r).markWindowEnd = s.markWindowEnd.seat r := rfl

@[simp] theorem State.seat_noticeWidth (w) : (s.seat r).noticeWidth w = (s.noticeWidth w).seat r := by
  unfold State.noticeWidth
  split <;> simp_all

@[simp] theorem State.seat_windowDue : (s.seat r).windowDue = s.windowDue := rfl

@[simp] theorem State.seat_takeWindowEnd : (s.seat r).takeWindowEnd = s.takeWindowEnd.seat r := by
  unfold State.takeWindowEnd
  split <;> simp_all

@[simp] theorem State.seat_dropChannel (i) : (s.seat r).dropChannel i = (s.dropChannel i).seat r := by
  unfold State.dropChannel
  split <;> simp_all

@[simp] theorem State.seat_dropsChannel (i) : (s.seat r).dropsChannel i = s.dropsChannel i := rfl

@[simp] theorem State.seat_takeStuckLong (i) : (s.seat r).takeStuckLong i = (s.takeStuckLong i).seat r := by
  unfold State.takeStuckLong
  dsimp only
  repeat' split
  all_goals simp_all

@[simp] theorem State.seat_finishInput (i) : (s.seat r).finishInput i = (s.finishInput i).seat r := by
  simp [State.finishInput]

@[simp] theorem State.seat_finishInputs : (s.seat r).finishInputs = s.finishInputs.seat r := by
  simp [State.finishInputs, Sin.all]

@[simp] theorem State.seat_debounce (b) : (s.seat r).debounce b = (s.debounce b).seat r := rfl

@[simp] theorem State.seat_presenceTrue : (s.seat r).presenceTrue = s.presenceTrue.seat r := by
  unfold State.presenceTrue
  split <;> simp_all

@[simp] theorem State.seat_surprise (w) : (s.seat r).surprise w = (s.surprise w).seat r := by
  simp [State.surprise]

@[simp] theorem State.seat_presenceFalse : (s.seat r).presenceFalse = s.presenceFalse.seat r := by
  unfold State.presenceFalse
  repeat' split
  all_goals simp_all

@[simp] theorem State.seat_overCurrent : (s.seat r).overCurrent = s.overCurrent.seat r := by
  unfold State.overCurrent
  split <;> simp_all

@[simp] theorem State.seat_powerUpEnd : (s.seat r).powerUpEnd = s.powerUpEnd.seat r := by
  unfold State.powerUpEnd
  split <;> simp_all

/-! ### Commits and requested banks -/

@[simp] theorem State.seat_roleFloors (a b) : (s.seat r).roleFloors a b = (s.roleFloors a b).seat r := rfl

@[simp] theorem State.seat_remapTracker (a b n) :
    (s.seat r).remapTracker a b n = (s.remapTracker a b n).seat r := by
  unfold State.remapTracker
  repeat' split
  all_goals simp_all

@[simp] theorem State.seat_reevaluate (a b) : (s.seat r).reevaluate a b = (s.reevaluate a b).seat r := by
  simp [State.reevaluate, State.seat_forStrings]

@[simp] theorem State.seat_linkCommit (a b) : (s.seat r).linkCommit a b = (s.linkCommit a b).seat r := by
  unfold State.linkCommit
  repeat' split
  all_goals simp_all

@[simp] theorem State.seat_conditionerCommit (a b) :
    (s.seat r).conditionerCommit a b = (s.conditionerCommit a b).seat r := rfl

@[simp] theorem State.seat_commitGlobal (g) : (s.seat r).commitGlobal g = (s.commitGlobal g).seat r := by
  simp [State.commitGlobal]

@[simp] theorem State.seat_takeRequest (n) : (s.seat r).takeRequest n = (s.takeRequest n).seat r := by
  unfold State.takeRequest
  dsimp only
  repeat' split
  all_goals simp_all

@[simp] theorem State.seat_requestBank (k n) : (s.seat r).requestBank k n = (s.requestBank k n).seat r := by
  simp [State.requestBank]

/-! ### The Stream Units -/

@[simp] theorem State.seat_closeOpen (p c) : (s.seat r).closeOpen p c = (s.closeOpen p c).seat r := by
  unfold State.closeOpen
  dsimp only
  split <;> simp_all

@[simp] theorem State.seat_closeIfFull (p) : (s.seat r).closeIfFull p = (s.closeIfFull p).seat r := by
  unfold State.closeIfFull
  split <;> simp_all

@[simp] theorem State.seat_countLost (p g) : (s.seat r).countLost p g = (s.countLost p g).seat r := by
  simp [State.countLost]

@[simp] theorem State.seat_overflowLost (p) : (s.seat r).overflowLost p = (s.overflowLost p).seat r := by
  simp [State.overflowLost]

@[simp] theorem State.seat_storeRecord (p x) :
    (s.seat r).storeRecord p x = ((s.storeRecord p x).1.seat r, (s.storeRecord p x).2) := by
  unfold State.storeRecord
  dsimp only
  repeat' split
  all_goals simp_all

@[simp] theorem State.seat_latchRecord (p x) : (s.seat r).latchRecord p x = (s.latchRecord p x).seat r := by
  unfold State.latchRecord
  dsimp only
  split <;> simp_all

@[simp] theorem State.seat_passFilter (p x) :
    (s.seat r).passFilter p x = ((s.passFilter p x).1.seat r, (s.passFilter p x).2) := by
  unfold State.passFilter
  dsimp only
  repeat' split
  all_goals simp_all

@[simp] theorem State.seat_formCue (p) : (s.seat r).formCue p = (s.formCue p).seat r := by
  unfold State.formCue
  dsimp only
  repeat' split
  all_goals simp_all

@[simp] theorem State.seat_resyncRecords (p k) : (s.seat r).resyncRecords p k = s.resyncRecords p k := rfl

@[simp] theorem State.seat_putResync (p k) : (s.seat r).putResync p k = (s.putResync p k).seat r := by
  simp [State.putResync]

@[simp] theorem State.seat_resync (p k) : (s.seat r).resync p k = (s.resync p k).seat r := by
  unfold State.resync
  dsimp only
  repeat' split
  all_goals simp_all

@[simp] theorem State.seat_emit (p x) : (s.seat r).emit p x = (s.emit p x).seat r := by
  unfold State.emit
  dsimp only
  repeat' split
  all_goals simp_all

@[simp] theorem State.seat_emitLegato (p n t a b k) :
    (s.seat r).emitLegato p n t a b k = (s.emitLegato p n t a b k).seat r := by
  unfold State.emitLegato
  split <;> simp_all

@[simp] theorem State.seat_formTrack (p n t k m l) :
    (s.seat r).formTrack p n t k m l = (s.formTrack p n t k m l).seat r := by
  unfold State.formTrack
  dsimp only
  repeat' split
  all_goals simp_all

@[simp] theorem State.seat_formRecords (p t u) :
    (s.seat r).formRecords p t u = (s.formRecords p t u).seat r := by
  unfold State.formRecords
  split <;> simp_all

@[simp] theorem State.seat_handlePublication (p w) :
    (s.seat r).handlePublication p w = (s.handlePublication p w).seat r := by
  unfold State.handlePublication
  split <;> simp_all

@[simp] theorem State.seat_takePublication (p m) :
    (s.seat r).takePublication p m = (s.takePublication p m).seat r := by
  unfold State.takePublication
  dsimp only
  repeat' split
  all_goals simp_all

@[simp] theorem State.seat_takeIdle (p) : (s.seat r).takeIdle p = (s.takeIdle p).seat r := by
  unfold State.takeIdle
  split <;> simp_all

@[simp] theorem State.seat_afterFree (p) : (s.seat r).afterFree p = (s.afterFree p).seat r := by
  unfold State.afterFree
  split <;> simp_all

@[simp] theorem State.seat_postTo (b d c w) :
    (s.seat r).postTo b d c w = ((s.postTo b d c w).1.seat r, (s.postTo b d c w).2) := by
  unfold State.postTo
  dsimp only
  repeat' split
  all_goals simp_all

/-! ### A conversion set and a millisecond -/

@[simp] theorem State.seat_endHandling : (s.seat r).endHandling = s.endHandling.seat r := rfl

@[simp] theorem State.seat_finishEvents : (s.seat r).finishEvents = s.finishEvents.seat r := by
  simp [State.finishEvents]

@[simp] theorem State.seat_finishSet : (s.seat r).finishSet = s.finishSet.seat r := by simp [State.finishSet]

@[simp] theorem State.seat_monitorChanges (w) : (s.seat r).monitorChanges w = (s.monitorChanges w).seat r := by
  unfold State.monitorChanges
  split <;> simp_all

@[simp] theorem State.seat_inputSamples (i) : (s.seat r).inputSamples i = s.inputSamples i := rfl

@[simp] theorem State.seat_dcSamples (x) : (s.seat r).dcSamples x = s.dcSamples x := rfl

@[simp] theorem State.seat_stringValues (d) : (s.seat r).stringValues d = s.stringValues d := rfl

@[simp] theorem State.seat_tapSample (d) : (s.seat r).tapSample d = (s.tapSample d).seat r := by
  unfold State.tapSample
  split <;> simp_all

@[simp] theorem State.seat_conditionSample (x v) :
    (s.seat r).conditionSample x v = (s.conditionSample x v).seat r := rfl

@[simp] theorem State.seat_siuSample (i) : (s.seat r).siuSample i = (s.siuSample i).seat r := rfl

@[simp] theorem State.seat_sampleTrackers (f v) :
    (s.seat r).sampleTrackers f v = (s.sampleTrackers f v).seat r :=
  State.seat_forStrings s r _ fun _ _ => by split <;> simp_all

@[simp] theorem State.seat_beginHandling : (s.seat r).beginHandling = s.beginHandling.seat r := rfl

@[simp] theorem State.seat_countIdles : (s.seat r).countIdles = s.countIdles.seat r := rfl

@[simp] theorem State.seat_handleSet (i o) : (s.seat r).handleSet i o = (s.handleSet i o).seat r := by
  unfold State.handleSet
  repeat' split
  all_goals simp_all

@[simp] theorem State.seat_conversionSet (i o) :
    (s.seat r).conversionSet i o = (s.conversionSet i o).seat r := by
  simp [State.conversionSet]

@[simp] theorem State.seat_watchEnd : (s.seat r).watchEnd = s.watchEnd.seat r := by
  unfold State.watchEnd
  split <;> simp_all

@[simp] theorem State.seat_holdEnd (b) : (s.seat r).holdEnd b = (s.holdEnd b).seat r := by
  unfold State.holdEnd
  repeat' split
  all_goals simp_all

@[simp] theorem State.seat_armEnd : (s.seat r).armEnd = s.armEnd.seat r := by
  unfold State.armEnd
  split <;> simp_all

@[simp] theorem State.seat_tickWatch : (s.seat r).tickWatch = s.tickWatch.seat r := by
  unfold State.tickWatch
  repeat' split
  all_goals simp_all

@[simp] theorem State.seat_tickDelay : (s.seat r).tickDelay = s.tickDelay.seat r := by
  unfold State.tickDelay
  simp only [State.seat_link]
  repeat' split
  all_goals simp_all

@[simp] theorem State.seat_tickArm : (s.seat r).tickArm = s.tickArm.seat r := by
  unfold State.tickArm
  simp only [State.seat_learn]
  repeat' split
  all_goals simp_all

@[simp] theorem State.seat_tickHold : (s.seat r).tickHold = s.tickHold.seat r := by
  unfold State.tickHold
  dsimp only
  repeat' split
  all_goals simp_all

@[simp] theorem State.seat_tick : (s.seat r).tick = s.tick.seat r := by simp [State.tick]

end

end Sys2Proof.Machine
end

section
/-!
SUPPORT. What the rows do with the Port Interfaces. An operation that is blind to them leaves everything of them but
the ten flags; the owners of the commands are blind, or change the two words alone; and every row of a frame and
every other row acts in one of a few ways.
-/

namespace Sys2Proof.Machine

/-! ### What a blind operation leaves of a port, and what it does not hang on -/

/-- The operation reads and changes nothing of the Port Interfaces but the ten flags. -/
def Blind (op : State → State) : Prop := ∀ s r, op (s.seat r) = (op s).seat r

/-- So is a command's owner, and its response does not hang on the rest of them. -/
def BlindOwner (owner : State → State × Response) : Prop :=
  ∀ s r, owner (s.seat r) = ((owner s).1.seat r, (owner s).2)

theorem PortIf.flagged_self (q : PortIf) : q.flagged q.flags = q := by
  have h : q.flags &&& ~~~flagBits ||| q.flags &&& flagBits = q.flags := by
    have hall : ~~~flagBits ||| flagBits = BitVec.allOnes 16 := by decide
    rw [← BitVec.and_or_distrib_left, hall, BitVec.and_allOnes]
  rw [PortIf.flagged, h]

theorem State.seat_own (s : State) : s.seat s.ports = s := by
  simp only [State.seat, PortIf.flagged_self]

theorem State.seat_port (s : State) (r : Two PortIf) (p : Port) :
    (s.seat r).ports.get p = (r.get p).flagged (s.ports.get p).flags := by
  cases p <;> rfl

/-- Flags and mask hold their ten bits alone (R183, R185). -/
def PortIf.TenBits (q : PortIf) : Prop := q.flags &&& 0xFC00 = 0 ∧ q.mask &&& 0xFC00 = 0

/-- The two words of a port may have changed, within their ten bits, and nothing else of it has. -/
structure PortIf.Kept (q q' : PortIf) : Prop where
  words : q' = { q with flags := q'.flags, mask := q'.mask }
  tenBits : q.TenBits → q'.TenBits

theorem PortIf.flagged_kept (q : PortIf) (w : Half) : q.Kept (q.flagged w) where
  words := rfl
  tenBits h := by
    refine ⟨?_, h.2⟩
    have hhigh : ~~~flagBits &&& 0xFC00 = (0xFC00 : Half) := by decide
    have hlow : flagBits &&& 0xFC00 = (0 : Half) := by decide
    rw [PortIf.flagged, BitVec.and_or_distrib_right, BitVec.and_assoc, BitVec.and_assoc, hhigh, hlow, h.1]
    simp

/-- A blind operation leaves everything of a port but the ten flags. -/
theorem Blind.kept {op : State → State} (h : Blind op) (s : State) (p : Port) :
    (s.ports.get p).Kept ((op s).ports.get p) := by
  have hop : op s = (op s).seat s.ports := by rw [← h, State.seat_own]
  rw [hop, State.seat_port]
  exact PortIf.flagged_kept _ _

/-- The byte count and the byte sent last, which a frame sets anew, are 0 (R176, R177). -/
def PortIf.rested (q : PortIf) : PortIf := { q with byteCount := 0, sdo := 0 }

/-- The part with one port so. -/
def State.rested (s : State) (p : Port) : State := s.updPort p PortIf.rested

theorem State.seat_rested (s : State) (r : Two PortIf) (p : Port) :
    (s.seat r).rested p = s.seat (r.set p (r.get p).rested) := by
  cases p <;> rfl

theorem State.rested_eq_seat (s : State) (p : Port) :
    s.rested p = s.seat (s.ports.set p (s.ports.get p).rested) := by
  rw [← State.seat_rested, State.seat_own]

/-- A blind operation does not hang on the byte count and the byte sent last. -/
theorem Blind.rested {op : State → State} (h : Blind op) (s : State) (p : Port) :
    op (s.rested p) = (op s).rested p := by
  rw [State.rested_eq_seat, h, ← State.seat_rested, ← h, State.seat_own]

/-! ### The owners of the commands that see nothing of the Port Interfaces -/

@[simp] theorem linkOk_seat (s : State) (r : Two PortIf) :
    linkOk (s.seat r) = (s.seat r, (linkOk s).2) := rfl
@[simp] theorem linkRefusal_seat (s : State) (r : Two PortIf) :
    linkRefusal (s.seat r) = (s.seat r, (linkRefusal s).2) := rfl
@[simp] theorem streamOk_seat (s : State) (r : Two PortIf) (p : Port) :
    streamOk (s.seat r) p = (s.seat r, (streamOk s p).2) := rfl
@[simp] theorem streamRefusal_seat (s : State) (r : Two PortIf) (p : Port) :
    streamRefusal (s.seat r) p = (s.seat r, (streamRefusal s p).2) := rfl

theorem State.doSetClock_blind (c : Byte) : BlindOwner fun t => t.doSetClock c := by
  intro s r
  unfold State.doSetClock
  dsimp only
  repeat' split
  all_goals simp_all

theorem State.doReadProfile_blind (b n : Byte) : BlindOwner fun t => t.doReadProfile b n := by
  intro s r
  unfold State.doReadProfile
  split <;> rfl

theorem State.doEditProfile_blind (p : Port) (b n : Byte) (base : Half) (m : ProfileImage) :
    BlindOwner fun t => t.doEditProfile p b n base m := by
  intro s r
  unfold State.doEditProfile
  simp only [State.seat_store, State.seat_storeProfile, State.seat_raise, State.seat_learnProfileCommit]
  repeat' split
  all_goals rfl

theorem State.doReadGlobal_blind : BlindOwner State.doReadGlobal := fun _ _ => rfl

theorem State.doEditGlobal_blind (p : Port) (base : Half) (m : GlobalImage) :
    BlindOwner fun t => t.doEditGlobal p base m := by
  intro s r
  unfold State.doEditGlobal
  dsimp only
  repeat' split
  all_goals simp_all

theorem State.doSelectBank_blind (m b : Byte) : BlindOwner fun t => t.doSelectBank m b := by
  intro s r
  unfold State.doSelectBank
  dsimp only
  split
  · rfl
  · next k _ =>
    have hbanks := s.seat_forStrings r (fun n t => if inMask m n then t.requestBank k n else t)
      fun _ _ => by split <;> simp
    split
    · rfl
    · rw [hbanks]
      rfl

/-- The commands of LINK_CONTROL (R25, R31, R32). -/
theorem State.linkCommands_blind : BlindOwner State.doRetrain ∧ BlindOwner State.doDisable ∧
    BlindOwner State.doEnable ∧ BlindOwner State.doExpectRemoval := by
  unfold State.doRetrain State.doDisable State.doEnable State.doExpectRemoval
  refine ⟨?_, ?_, ?_, ?_⟩ <;> intro s r
  all_goals
    dsimp only
    repeat' split
    all_goals simp_all

theorem State.doLearnStart_blind (p : Port) (n b : Byte) (base : Half) :
    BlindOwner fun t => t.doLearnStart p n b base := by
  intro s r
  unfold State.doLearnStart
  dsimp only
  repeat' split
  all_goals simp_all

theorem State.doLearnAbort_blind (p : Port) : BlindOwner fun t => t.doLearnAbort p := by
  intro s r
  unfold State.doLearnAbort
  dsimp only
  split <;> simp_all

theorem State.doSetStream_blind (p : Port) (m : SettingsImage) : BlindOwner fun t => t.doSetStream p m := by
  intro s r
  unfold State.doSetStream
  dsimp only
  repeat' split
  all_goals simp_all

theorem State.doSetFilter_blind (p : Port) (l : List FilterImage) : BlindOwner fun t => t.doSetFilter p l := by
  intro s r
  unfold State.doSetFilter
  dsimp only
  repeat' split
  all_goals rfl

/-- The commands of STREAM_CONTROL (R169 to R173). -/
theorem State.streamControl_blind (p : Port) :
    BlindOwner (fun t => t.doStart p) ∧ BlindOwner (fun t => t.doStop p) ∧ BlindOwner (fun t => t.doHold p) ∧
    BlindOwner (fun t => t.doResume p) ∧ BlindOwner (fun t => t.doResync p) ∧
    BlindOwner fun t => t.doReset p := by
  unfold State.doStart State.doStop State.doHold State.doResume State.doResync State.doReset
  refine ⟨?_, ?_, ?_, ?_, ?_, ?_⟩ <;> intro s r
  all_goals
    dsimp only
    repeat' split
    all_goals simp_all

theorem State.doFetch_blind (p : Port) : BlindOwner fun t => t.doFetch p := by
  intro s r
  unfold State.doFetch
  dsimp only
  split <;> simp_all

theorem State.doRelease_blind (p : Port) (seq : Byte) : BlindOwner fun t => t.doRelease p seq := by
  intro s r
  unfold State.doRelease
  dsimp only
  repeat' split
  all_goals simp_all

theorem State.doReadLatch_blind (p : Port) : BlindOwner fun t => t.doReadLatch p := by
  intro s r
  unfold State.doReadLatch
  dsimp only
  split <;> simp_all

theorem State.doPostCue_blind (p : Port) (d : Byte) (c : Half) : BlindOwner fun t => t.doPostCue p d c := by
  intro s r
  unfold State.doPostCue
  split <;> simp_all

/-! ### What every owner does with the Port Interfaces -/

/-- An owner changes nothing of the Port Interfaces but their two words, within their ten bits, and does not hang on
the byte count and the byte sent last. -/
structure Courteous (owner : State → State × Response) : Prop where
  kept : ∀ s p, PortIf.Kept (s.ports.get p) ((owner s).1.ports.get p)
  rested : ∀ s p, owner (State.rested s p) = ((owner s).1.rested p, (owner s).2)

theorem BlindOwner.courteous {owner : State → State × Response} (h : BlindOwner owner) : Courteous owner := by
  have hblind : Blind fun s => (owner s).1 := fun s r => congrArg Prod.fst (h s r)
  refine ⟨hblind.kept, fun s p => Prod.ext (hblind.rested s p) ?_⟩
  rw [State.rested_eq_seat, h]

/-- A change of one port within its two words. -/
theorem State.updPort_kept {p : Port} {f : PortIf → PortIf} (hf : ∀ q : PortIf, q.Kept (f q)) (s : State)
    (q : Port) : (s.ports.get q).Kept ((s.updPort p f).ports.get q) := by
  rw [State.updPort_ports]
  split
  · exact hf _
  · exact ⟨rfl, id⟩

theorem clearIn_high {w : Half} (x : Half) (h : w &&& 0xFC00 = 0) : clearIn w x &&& 0xFC00 = 0 := by
  rw [clearIn, BitVec.and_assoc, BitVec.and_comm _ 0xFC00, ← BitVec.and_assoc, h]
  simp

theorem maskOf_high (x : Half) : maskOf x &&& 0xFC00 = 0 := by
  have hlow : flagBits &&& 0xFC00 = (0 : Half) := by decide
  rw [maskOf, BitVec.and_assoc, hlow]
  simp

/-- CLEAR_FLAGS answers with the flag word after it (R184). -/
theorem State.doClearFlags_courteous (p : Port) (word : Half) : Courteous fun t => t.doClearFlags p word where
  kept := State.updPort_kept fun _ => ⟨rfl, fun h => ⟨clearIn_high word h.1, h.2⟩⟩
  rested s q := by
    cases p <;> cases q <;> rfl

/-- SET_ATTN_MASK changes the mask (R185). -/
theorem State.doSetMask_courteous (p : Port) (word : Half) : Courteous fun t => t.doSetMask p word where
  kept := State.updPort_kept fun _ => ⟨rfl, fun h => ⟨h.1, maskOf_high word⟩⟩
  rested s q := by
    cases p <;> cases q <;> rfl

/-- READ_STATUS answers with flags and mask (R182). -/
theorem statusBody_courteous (p : Port) : Courteous fun t => (t, ok (statusBody t p)) where
  kept s q := ⟨rfl, id⟩
  rested s q := by
    cases p <;> cases q <;> rfl

/-! ### What the rows do -/

/-- The ways in which a row answers a frame at port p (R177, R178, R186): it hands the command over to an owner; it
answers by itself, as UNKNOWN, MALFORMED or BUSY; or it resets the part. -/
inductive AnswersFrame (p : Port) : Byte → List Byte → Instr → Prop
  | handsOver {code : Byte} {args : List Byte} {c : Instr} {owner : State → State × Response} (h : Courteous owner)
    (hc : ∀ s, exec c s = .next (s.frame p args.length owner)) : AnswersFrame p code args c
  | unknown {code : Byte} {args : List Byte} (h : badSubcommand code args = false) :
    AnswersFrame p code args (.unknownCommand p code args)
  | malformed (code : Byte) (args : List Byte) : AnswersFrame p code args (.malformedFrame p code args)
  | busy (code : Byte) (args : List Byte) : AnswersFrame p code args (.busyFrame p code args)
  | resets : AnswersFrame p 2 [] (.partReset p)

theorem exec_unknownCommand {code : Byte} {args : List Byte} (p : Port) (h : badSubcommand code args = false)
    (s : State) : exec (.unknownCommand p code args) s = .next (s.ownAnswer p args.length .unknown) :=
  if_neg (by simp [h])

theorem exec_malformedFrame (p : Port) (code : Byte) (args : List Byte) (s : State) :
    exec (.malformedFrame p code args) s = .next (s.ownAnswer p args.length .malformed) := rfl

theorem exec_busyFrame (p : Port) (code : Byte) (args : List Byte) (s : State) :
    exec (.busyFrame p code args) s =
      if (s.ports.get p).handed.isSome then .next (s.ownAnswer p args.length .busy) else .next s := rfl

section
variable {p : Port} {code : Byte} {args : List Byte} {c : Instr}

/-- A row whose owner sees nothing of the Port Interfaces. -/
theorem AnswersFrame.blind {owner : State → State × Response} (h : BlindOwner owner)
    (hc : ∀ s, exec c s = .next (s.frame p args.length owner)) : AnswersFrame p code args c :=
  .handsOver h.courteous hc

/-- A row that only reads, and reads nothing of the Port Interfaces. -/
theorem AnswersFrame.read {response : State → Response}
    (hc : ∀ s, exec c s = .next (s.frame p args.length fun t => (t, response t)))
    (h : ∀ s r, response (State.seat s r) = response s) : AnswersFrame p code args c :=
  .blind (fun s r => by rw [h]) hc

theorem unknownCommand_answersFrame (p : Port) (code : Byte) (args : List Byte) :
    AnswersFrame p code args (.unknownCommand p code args) := by
  cases h : badSubcommand code args with
  | false => exact .unknown h
  | true => exact .read (fun s => if_pos h) fun _ _ => rfl

/-- SET_FILTER has 1 + 3 times the count of argument bytes (R178). -/
theorem filterArgs_length (l : List FilterImage) :
    (byte l.length ++ l.flatMap fun m => [m.kinds, m.strings, m.action]).length = 1 + 3 * l.length := by
  simp [byte, List.length_flatMap, Nat.mul_comm]
  omega

/-- The row of a command frame answers it in one of these ways. -/
theorem exec_answersFrame (h : frameOf? c = some (p, code, args)) : AnswersFrame p code args c := by
  obtain ⟨hretrain, hdisable, henable, hexpect⟩ := State.linkCommands_blind
  obtain ⟨hstart, hstop, hhold, hresume, hresync, hreset⟩ := State.streamControl_blind p
  cases c <;> cases h
  case partReset => exact .resets
  case unknownCommand => exact unknownCommand_answersFrame p _ _
  case malformedFrame => exact .malformed _ _
  case busyFrame => exact .busy _ _
  case identify | readFloors | readContext | readCounters | learnStatus | readStream | readFilter |
      readPortCounters => exact .read (fun _ => rfl) fun _ _ => rfl
  case readStatus => exact .handsOver (statusBody_courteous p) fun _ => rfl
  case clearFlags w => exact .handsOver (State.doClearFlags_courteous p w) fun _ => rfl
  case setAttnMask w => exact .handsOver (State.doSetMask_courteous p w) fun _ => rfl
  case setClock x => exact .blind (State.doSetClock_blind x) fun _ => rfl
  case readProfile b n => exact .blind (State.doReadProfile_blind b n) fun _ => rfl
  case editProfile b n base m => exact .blind (State.doEditProfile_blind p b n base m) fun _ => rfl
  case readGlobal => exact .blind State.doReadGlobal_blind fun _ => rfl
  case editGlobal base m => exact .blind (State.doEditGlobal_blind p base m) fun _ => rfl
  case selectBank m b => exact .blind (State.doSelectBank_blind m b) fun _ => rfl
  case retrain => exact .blind hretrain fun _ => rfl
  case disable => exact .blind hdisable fun _ => rfl
  case enable => exact .blind henable fun _ => rfl
  case expectRemoval => exact .blind hexpect fun _ => rfl
  case learnStart n b base => exact .blind (State.doLearnStart_blind p n b base) fun _ => rfl
  case learnAbort => exact .blind (State.doLearnAbort_blind p) fun _ => rfl
  case setStream m => exact .blind (State.doSetStream_blind p m) fun _ => rfl
  case setFilter l =>
    exact .blind (State.doSetFilter_blind p l) fun s => by
      rw [filterArgs_length]
      rfl
  case streamStart => exact .blind hstart fun _ => rfl
  case streamStop => exact .blind hstop fun _ => rfl
  case streamHold => exact .blind hhold fun _ => rfl
  case streamResume => exact .blind hresume fun _ => rfl
  case streamResync => exact .blind hresync fun _ => rfl
  case streamReset => exact .blind hreset fun _ => rfl
  case fetch => exact .blind (State.doFetch_blind p) fun _ => rfl
  case release seq => exact .blind (State.doRelease_blind p seq) fun _ => rfl
  case readLatch => exact .blind (State.doReadLatch_blind p) fun _ => rfl
  case postCue d code => exact .blind (State.doPostCue_blind p d code) fun _ => rfl
  case clearPortCounters => exact .blind (fun _ _ => rfl) fun _ => rfl

end

/-- The ways in which a row that is no frame acts: blind to the Port Interfaces, always or where its event is due; the
power-on; the transaction of a port (R177, R187). -/
inductive AnswersEvent : (State → Result) → Prop
  | blind {op : State → State} (h : Blind op) : AnswersEvent fun s => .next (op s)
  | blindIf {op : State → State} {due : State → Prop} [DecidablePred due] (h : Blind op)
    (hdue : ∀ s r, due (State.seat s r) ↔ due s) : AnswersEvent fun s => if due s then .next (op s) else .next s
  | powerOn : AnswersEvent execPowerOn
  | csFall (p : Port) : AnswersEvent (execCsFall p)
  | csRise (p : Port) : AnswersEvent (execCsRise p)
  | responseReady (p : Port) : AnswersEvent (execResponseReady p)

/-- A row that is no command frame acts in one of these ways. -/
theorem exec_answersEvent {c : Instr} (h : frameOf? c = none) : AnswersEvent (exec c) := by
  cases c <;> cases h
  case powerOn => exact .powerOn
  case csFall p => exact .csFall p
  case csRise p => exact .csRise p
  case responseReady p => exact .responseReady p
  case conversionSet | stuckLong | auxEvaluation | digitalAuxPublish | settleWindowEnd =>
    exact .blindIf (fun s r => by simp) fun _ _ => Iff.rfl
  all_goals exact .blind fun s r => by simp

end Sys2Proof.Machine
end

section
/-!
PROOF. Every step leaves the Port Interfaces as they must be (R177, R183, R185).
-/

namespace Sys2Proof.Machine

/-! ### The invariant in its parts -/

/-- Bytes that are not yet a whole frame: fewer arguments than the second one says (R176). -/
def FrameBegun (stored : List Byte) : Prop := ∀ code n args, stored = code :: n :: args → args.length < n.toNat

/-- What a port holds of an answer, in each state of its transaction (R177). -/
def PortIf.PhaseFine (q : PortIf) : Prop :=
  match q.txn with
  | .idle => q.answer = none ∧ q.byteCount = 0 ∧ q.sent = 0
  | .receiving => q.answer = none ∧ q.byteCount = q.stored.length ∧ q.sent = 0 ∧ FrameBegun q.stored
  | .waiting => q.answer = none ∧ q.handed.isSome = true ∧ q.sent = 0
  | .answering => ∃ r, q.answer = some r ∧ q.sent < r.bytes.length
  | .done => ∃ r, q.answer = some r ∧ q.sent = r.bytes.length

/-- A port is as R177, R183 and R185 say. -/
structure PortIf.Fine (q : PortIf) : Prop where
  words : q.TenBits
  selected : q.csLow = true ∨ q.txn = .idle
  stored : q.stored = [] ∨ q.txn = .receiving
  phase : q.PhaseFine

@[simp] theorem frameBegun_nil : FrameBegun [] := fun _ _ _ h => nomatch h

@[simp] theorem frameBegun_singleton (code : Byte) : FrameBegun [code] := fun _ _ _ h => nomatch h

@[simp] theorem frameBegun_cons (code n : Byte) (args : List Byte) :
    FrameBegun (code :: n :: args) ↔ args.length < n.toNat := by
  constructor
  · exact fun h => h code n args rfl
  · rintro h _ _ _ ⟨⟩
    exact h

theorem PortIf.fine_iff (q : PortIf) : q.Fine ↔ q.TenBits ∧ (q.csLow = true ∨ q.txn = .idle) ∧
    (q.stored = [] ∨ q.txn = .receiving) ∧ q.PhaseFine :=
  ⟨fun ⟨a, b, c, d⟩ => ⟨a, b, c, d⟩, fun ⟨a, b, c, d⟩ => ⟨a, b, c, d⟩⟩

theorem PortIf.ok_iff (q : PortIf) : q.ok = true ↔ q.Fine := by
  rw [PortIf.fine_iff]
  obtain ⟨csLow, txn, stored, count, handed, answer, sent, sdo, sdi, flags, mask⟩ := q
  cases txn
  case receiving =>
    rcases stored with _ | ⟨code, _ | ⟨n, args⟩⟩ <;>
      simp [PortIf.ok, PortIf.TenBits, PortIf.PhaseFine, and_assoc]
  all_goals simp [PortIf.ok, PortIf.TenBits, PortIf.PhaseFine, and_assoc, Option.any_eq_true]

/-! ### What keeps a port as it must be -/

section
variable {q : PortIf}

theorem PortIf.phaseFine_receiving (h : q.txn = .receiving) : q.PhaseFine ↔
    q.answer = none ∧ q.byteCount = q.stored.length ∧ q.sent = 0 ∧ FrameBegun q.stored := by
  rw [PortIf.PhaseFine, h]

theorem PortIf.phaseFine_answering (h : q.txn = .answering) : q.PhaseFine ↔
    ∃ r, q.answer = some r ∧ q.sent < r.bytes.length := by
  rw [PortIf.PhaseFine, h]

theorem PortIf.phaseFine_done (h : q.txn = .done) : q.PhaseFine ↔
    ∃ r, q.answer = some r ∧ q.sent = r.bytes.length := by
  rw [PortIf.PhaseFine, h]

theorem PortIf.Fine.kept {q' : PortIf} (h : q.Fine) (hk : q.Kept q') : q'.Fine := by
  obtain ⟨hwords, hten⟩ := hk
  have hten := hten h.words
  rw [hwords] at hten ⊢
  exact ⟨hten, h.selected, h.stored, h.phase⟩

theorem PortIf.resetAt_fine (cs : Bool) (sdi : List Byte) : (PortIf.resetAt cs sdi).Fine := by
  have hflags : (0x0200 : Half) &&& 0xFC00 = 0 := by decide
  have hmask : (0x03FF : Half) &&& 0xFC00 = 0 := by decide
  exact ⟨⟨hflags, hmask⟩, .inr rfl, .inl rfl, rfl, rfl, rfl⟩

theorem PortIf.Fine.fall (h : q.Fine) : q.fall.Fine := by
  unfold PortIf.fall
  split
  · exact h
  · exact ⟨h.words, .inl rfl, .inl rfl, rfl, rfl, rfl, frameBegun_nil⟩

theorem PortIf.Fine.rise (h : q.Fine) : q.rise.Fine := by
  unfold PortIf.rise
  split
  · exact ⟨h.words, .inr rfl, .inl rfl, rfl, rfl, rfl⟩
  · exact h

theorem Response.bytes_pos (r : Response) : 0 < r.bytes.length := Nat.succ_pos _

theorem PortIf.Fine.notStored (h : q.Fine) (hr : q.txn ≠ .receiving) : q.stored = [] := h.stored.resolve_right hr

theorem PortIf.Fine.csLow (h : q.Fine) (hi : q.txn ≠ .idle) : q.csLow = true := h.selected.resolve_right hi

theorem PortIf.Fine.ownerAnswers (h : q.Fine) : q.ownerAnswers.Fine := by
  unfold PortIf.ownerAnswers
  split
  · exact h
  · next r _ =>
    split
    · next hw =>
      exact ⟨h.words, .inl (h.csLow (by simp [hw])), .inl (h.notStored (by simp [hw])), r, rfl, r.bytes_pos⟩
    · next hw =>
      refine ⟨h.words, h.selected, h.stored, ?_⟩
      have hphase := h.phase
      unfold PortIf.PhaseFine at hphase ⊢
      cases htxn : q.txn <;> simp_all

/-- A selected port with nothing stored can queue a response. -/
theorem PortIf.answerNow_fine (hw : q.TenBits) (hlow : q.csLow = true) (hs : q.stored = []) (n : Nat) (r : Response) :
    (q.answerNow n r).Fine :=
  ⟨hw, .inl hlow, .inl hs, r, rfl, r.bytes_pos⟩

theorem PortIf.Fine.csLow_of_receives (h : q.Fine) (hr : q.receives = true) : q.csLow = true := by
  obtain ⟨htxn, -⟩ := q.receives_iff.mp hr
  exact h.csLow (by simp [htxn])

theorem PortIf.Fine.answerNow (h : q.Fine) (hr : q.receives = true) (n : Nat) (r : Response) :
    (q.answerNow n r).Fine :=
  PortIf.answerNow_fine h.words (h.csLow_of_receives hr) (q.receives_iff.mp hr).2 n r

theorem PortIf.Fine.handOver (h : q.Fine) (hr : q.receives = true) (n : Nat) (r : Response) :
    (q.handOver n r).Fine := by
  obtain ⟨htxn, hstored⟩ := q.receives_iff.mp hr
  obtain ⟨hanswer, -, hsent, -⟩ := (PortIf.phaseFine_receiving htxn).mp h.phase
  exact ⟨h.words, .inl (h.csLow_of_receives hr), .inl hstored, hanswer, rfl, hsent⟩

/-- In ANSWERING a byte of the response is sent, and with the last one the transaction is DONE (R177). -/
theorem PortIf.clockOut_of_answering {r : Response} (ht : q.txn = .answering) (ha : q.answer = some r) : q.clockOut =
    { q with
      sdo := r.bytes.getD q.sent 0, sent := q.sent + 1,
      txn := if r.bytes.length ≤ q.sent + 1 then .done else .answering } := by
  simp [PortIf.clockOut, PortIf.out, ht, ha]

theorem PortIf.Fine.clockOut (h : q.Fine) : q.clockOut.Fine := by
  by_cases ht : q.txn = .answering
  · obtain ⟨r, ha, hsent⟩ := (PortIf.phaseFine_answering ht).mp h.phase
    have hlow : q.csLow = true := h.csLow (by simp [ht])
    have hstored : q.stored = [] := h.notStored (by simp [ht])
    rw [PortIf.clockOut_of_answering ht ha]
    refine ⟨h.words, .inl hlow, .inl hstored, ?_⟩
    by_cases hlast : r.bytes.length ≤ q.sent + 1
    · exact (PortIf.phaseFine_done (if_pos hlast)).mpr ⟨r, ha, by dsimp only; omega⟩
    · exact (PortIf.phaseFine_answering (if_neg hlast)).mpr ⟨r, ha, by dsimp only; omega⟩
  · rw [PortIf.clockOut_of_not_answering ht]
    exact ⟨h.words, h.selected, h.stored, h.phase⟩

/-- Bytes that are no whole frame are the beginning of one (R177). -/
theorem frameBegun_of_decodeFrame {p : Port} {l : List Byte} (h : decodeFrame p l = none) : FrameBegun l := by
  rintro code n args rfl
  simpa [decodeFrame] using h

theorem PortIf.Fine.store {p : Port} {b : Byte} (h : q.Fine) (hr : q.txn = .receiving)
    (hd : decodeFrame p (q.stored ++ [b]) = none) : (q.store b).Fine := by
  obtain ⟨hanswer, -, hsent, -⟩ := (PortIf.phaseFine_receiving hr).mp h.phase
  exact ⟨h.words, h.selected, .inr hr,
    (PortIf.phaseFine_receiving (q := q.store b) hr).mpr
      ⟨hanswer, by simp [PortIf.store], hsent, frameBegun_of_decodeFrame hd⟩⟩

theorem PortIf.Fine.takeFrame (h : q.Fine) (hr : q.txn = .receiving) : q.takeFrame.Fine := by
  obtain ⟨hanswer, -, hsent, -⟩ := (PortIf.phaseFine_receiving hr).mp h.phase
  exact ⟨h.words, h.selected, .inl rfl,
    (PortIf.phaseFine_receiving (q := q.takeFrame) hr).mpr ⟨hanswer, rfl, hsent, frameBegun_nil⟩⟩

theorem PortIf.Fine.clockedFrom (h : q.Fine) (l : List Byte) : PortIf.Fine { q with sdi := l } :=
  ⟨h.words, h.selected, h.stored, h.phase⟩

end

/-! ### The rows -/

/-- Both ports are as they must be. -/
def State.PortsFine (s : State) : Prop := ∀ p, (s.ports.get p).Fine

theorem State.portsOk_iff (s : State) : s.portsOk = true ↔ s.PortsFine := by
  rw [State.portsOk, Bool.and_eq_true, PortIf.ok_iff, PortIf.ok_iff]
  exact ⟨fun ⟨ha, hb⟩ p => match p with
    | .a => ha
    | .b => hb, fun h => ⟨h .a, h .b⟩⟩

theorem State.PortsFine.updPort {s : State} (h : s.PortsFine) {p : Port} {f : PortIf → PortIf}
    (hf : (f (s.ports.get p)).Fine) : (s.updPort p f).PortsFine := by
  intro q
  rw [State.updPort_ports]
  split
  · next hq => exact hq ▸ hf
  · exact h q

theorem State.PortsFine.kept {s t : State} (h : s.PortsFine) (hk : ∀ p, (s.ports.get p).Kept (t.ports.get p)) :
    t.PortsFine := fun p => (h p).kept (hk p)

theorem PortIf.Kept.receives {q q' : PortIf} (h : q.Kept q') : q'.receives = q.receives := by
  rw [h.words]
  rfl

theorem PortIf.Kept.handed {q q' : PortIf} (h : q.Kept q') : q'.handed = q.handed := by
  rw [h.words]

theorem PortIf.Kept.trans {q q' q'' : PortIf} (h : q.Kept q') (h' : q'.Kept q'') : q.Kept q'' where
  words := by
    rw [h'.words, h.words]
  tenBits hq := h'.tenBits (h.tenBits hq)

theorem finishSet_blind : Blind State.finishSet := State.seat_finishSet

/-- What a command leaves of a port, behind the end of the last set. -/
theorem Courteous.taken {owner : State → State × Response} (h : Courteous owner) (s : State) (p : Port) :
    (s.ports.get p).Kept ((owner s.finishSet).1.ports.get p) :=
  (finishSet_blind.kept s p).trans (h.kept s.finishSet p)

theorem State.PortsFine.powerOn (s : State) : s.powerOn.PortsFine := fun p => by
  rw [State.powerOn_ports]
  exact PortIf.resetAt_fine _ _

/-- The row answers states in which the ports are as they must be. -/
def AnswersPortsFine (r : Result) : Prop := ∀ t, r = .next t → t.PortsFine

theorem answersPortsFine_next {t : State} (h : t.PortsFine) : AnswersPortsFine (.next t) := fun _ ht =>
  Host.Outcome.next.inj ht ▸ h

section
variable {s : State} {p : Port} {n : Nat}

theorem State.PortsFine.frame {owner : State → State × Response} (h : s.PortsFine) (howner : Courteous owner) :
    (s.frame p n owner).PortsFine := by
  unfold State.frame
  dsimp only
  split
  · next hr =>
    split
    · exact h.updPort ((h p).answerNow hr _ _)
    · have hkept := howner.taken s
      have hr' : (((owner s.finishSet).1.ports.get p)).receives = true := by rw [(hkept p).receives, hr]
      exact (h.kept hkept).updPort (((h p).kept (hkept p)).handOver hr' _ _)
  · exact h

theorem State.PortsFine.ownAnswer (h : s.PortsFine) (st : Status) : (s.ownAnswer p n st).PortsFine := by
  unfold State.ownAnswer
  dsimp only
  split
  · next hr => exact h.updPort ((h p).answerNow hr _ _)
  · exact h

theorem answersPortsFine_partReset (h : s.PortsFine) : AnswersPortsFine (execPartReset p s) := by
  unfold execPartReset
  dsimp only
  split
  · next hr =>
    split
    · exact answersPortsFine_next (h.updPort ((h p).answerNow hr _ _))
    · have hport : s.partReset.ports.get p = _ := s.powerOn_ports p
      have hreset : s.partReset.PortsFine := State.PortsFine.powerOn s
      refine answersPortsFine_next (hreset.updPort ?_)
      rw [hport]
      exact PortIf.answerNow_fine (PortIf.resetAt_fine _ _).words ((h p).csLow_of_receives hr) rfl _ _
  · exact answersPortsFine_next h

theorem AnswersFrame.portsFine {code : Byte} {args : List Byte} {c : Instr} (hc : AnswersFrame p code args c)
    (h : s.PortsFine) : AnswersPortsFine (exec c s) := by
  cases hc with
  | handsOver howner hexec =>
    rw [hexec]
    exact answersPortsFine_next (h.frame howner)
  | unknown hbad =>
    rw [exec_unknownCommand p hbad]
    exact answersPortsFine_next (h.ownAnswer .unknown)
  | malformed => exact answersPortsFine_next (h.ownAnswer .malformed)
  | busy =>
    rw [exec_busyFrame]
    split
    · exact answersPortsFine_next (h.ownAnswer .busy)
    · exact answersPortsFine_next h
  | resets => exact answersPortsFine_partReset h

theorem AnswersEvent.portsFine {f : State → Result} (hf : AnswersEvent f) (h : s.PortsFine) :
    AnswersPortsFine (f s) := by
  cases hf with
  | blind hop => exact answersPortsFine_next (h.kept (hop.kept s))
  | blindIf hop =>
    dsimp only
    split
    · exact answersPortsFine_next (h.kept (hop.kept s))
    · exact answersPortsFine_next h
  | powerOn => exact answersPortsFine_next (State.PortsFine.powerOn s)
  | csFall p => exact answersPortsFine_next (h.updPort (h p).fall)
  | csRise p => exact answersPortsFine_next (h.updPort (h p).rise)
  | responseReady p => exact answersPortsFine_next (h.updPort (h p).ownerAnswers)

/-- Every row leaves the ports as they must be. -/
theorem exec_portsFine (c : Instr) (h : s.PortsFine) : AnswersPortsFine (exec c s) := by
  cases hframe : frameOf? c with
  | none => exact (exec_answersEvent hframe).portsFine h
  | some f => exact (exec_answersFrame hframe).portsFine h

theorem State.PortsFine.clockByte (h : s.PortsFine) (b : Byte) : AnswersPortsFine (s.clockByte p b) := by
  unfold State.clockByte
  dsimp only
  split
  · exact answersPortsFine_next h
  split
  · next hr =>
    split
    · exact exec_portsFine _ (h.updPort ((h p).takeFrame hr))
    · next hd => exact answersPortsFine_next (h.updPort ((h p).store hr hd))
  · exact answersPortsFine_next (h.updPort (h p).clockOut)

theorem State.PortsFine.idle (h : s.PortsFine) : AnswersPortsFine s.idle := by
  unfold State.idle
  split
  · exact State.PortsFine.clockByte (h.updPort ((h .a).clockedFrom _)) _
  · exact State.PortsFine.clockByte (h.updPort ((h .b).clockedFrom _)) _
  · have htick : Blind State.tick := State.seat_tick
    exact answersPortsFine_next (h.kept (htick.kept s))

end

/-- Settles O56: what the other blocks do leaves a port but for its two words, and each move of a transaction, by a
row or by a byte, leads from one of its states to another as R177 says. -/
theorem stepsKeepPorts : Obligations.StepsKeepPorts := by
  intro s t hok ht
  have hfine := s.portsOk_iff.mp hok
  refine t.portsOk_iff.mpr ?_
  unfold step at ht
  split at ht
  · exact hfine.idle t ht
  · next c rest _ => exact exec_portsFine (s := { s with pending := rest }) c hfine t ht

end Sys2Proof.Machine
end

section
/-!
PROOF. The step and the queue, the state after reset, and the part that commands and events meet (R77, R94, R180,
R187; log entries 1, 11, 20 and 24).
-/

namespace Sys2Proof.Machine

/-- Settles O1: a step is defined so. -/
theorem stepTakesTheFront : Obligations.StepTakesTheFront := by
  intro c rest s h
  rw [step, h]

/-- Settles O2, row by row. -/
theorem everyCommandAnswersNext : Obligations.EveryCommandAnswersNext := fun c s => exec_answersNext c s

/-- Settles O6: power-on is the state after reset but for pins, queue and bytes, and the invariants are evaluated
there. -/
theorem resetIsPowerOn : Obligations.ResetIsPowerOn :=
  ⟨rfl, rfl, by decide, by decide, by decide, by decide, by decide, by decide⟩

/-! ### The part in which the last set's handling is complete -/

theorem State.finishSet_idem (s : State) : s.finishSet.finishSet = s.finishSet :=
  State.finishSet_of_settled s.finishSet_settled

theorem State.finishTrackers_idem (s : State) : s.finishTrackers.finishTrackers = s.finishTrackers :=
  State.finishTrackers_of_not_due s.finishTrackers_noneDue

theorem finishingLeavesASettledState : Claims.FinishingLeavesASettledState := fun s =>
  ⟨s.finishSet_settled, State.finishSet_of_settled⟩

/-- The end of a set leaves whether a port takes a command. -/
theorem State.finishSet_listens (s : State) (p : Port) : s.finishSet.listens p = s.listens p := by
  have hkept := finishSet_blind.kept s p
  rw [State.listens, State.listens, hkept.receives, hkept.handed]

/-- A frame that a port takes is handed over on the finished part, however much of the set is left. -/
theorem State.frame_finishSet {s : State} {p : Port} (h : s.listens p = true) (n : Nat)
    (owner : State → State × Response) : s.finishSet.frame p n owner = s.frame p n owner := by
  rw [State.frame_of_listens n owner h, State.frame_of_listens n owner (by rwa [State.finishSet_listens]),
    State.finishSet_idem]

/-- A malformed frame has not the length of its code (R178). -/
theorem not_wellFormed_malformedFrame {p : Port} {code : Byte} {args : List Byte}
    (h : argLength? code args = some args.length) : (Instr.malformedFrame p code args).wellFormed = false := by
  simp [Instr.wellFormed, h]

/-- A row UNKNOWN_COMMAND for the code of a command has a subcommand that names nothing (log entry 12). -/
theorem badSubcommand_of_wellFormed {p : Port} {code : Byte} {args : List Byte}
    (hwf : (Instr.unknownCommand p code args).wellFormed = true) (h : argLength? code args = some args.length) :
    badSubcommand code args = true := by
  simp only [Instr.wellFormed, h, Option.isNone_some, Bool.false_or, Bool.and_eq_true] at hwf
  exact hwf.2

theorem commandsFinishTheSetFirst : Claims.CommandsFinishTheSetFirst := by
  intro c p code args s hframe hwf hlength hreset hbusy hlistens
  cases exec_answersFrame hframe with
  | handsOver howner hexec => rw [hexec, hexec, State.frame_finishSet hlistens]
  | unknown hbad => exact absurd (badSubcommand_of_wellFormed hwf hlength) (by simp [hbad])
  | malformed => exact absurd hwf (by simp [not_wellFormed_malformedFrame hlength])
  | busy => exact absurd rfl hbusy
  | resets => exact absurd rfl hreset

/-- The rows of pins and timebase begin with the end of the set. -/
theorem timedRows_finishSet (s : State) :
    ∀ c ∈ [Instr.wordClockLoss, .presenceBecomesTrue, .presenceBecomesFalse, .powerUpDelayEnd, .overCurrent,
      .armTimerExpiry, .learnCommit, .presChange true, .presChange false], exec c s = exec c s.finishSet := by
  have hrow (g : State → State) : (.next (g s.finishSet) : Result) = .next (g s.finishSet.finishSet) := by
    rw [State.finishSet_idem]
  simp only [List.forall_mem_cons, List.not_mem_nil, false_implies, implies_true, and_true]
  exact ⟨hrow State.watchEnd, hrow (State.holdEnd · true), hrow (State.holdEnd · false), hrow State.powerUpEnd,
    hrow State.overCurrent, hrow State.armEnd, hrow State.takeLearnCommit,
    hrow fun t => { t with link := t.link.readPres true }, hrow fun t => { t with link := t.link.readPres false }⟩

theorem conversionSet_finishSet (s : State) (src : SampleSource) (pins : SetInputs) (order : SetOrder)
    (h : src = .internalTick ↔ s.siu.choice = .internal) :
    exec (.conversionSet src pins order) s = exec (.conversionSet src pins order) s.finishSet := by
  have hchoice : s.finishSet.siu.choice = s.siu.choice := by rw [State.finishSet_siu]; rfl
  have htakes := (s.siu.choice.takes_iff src).mpr h
  rw [exec_conversionSet, exec_conversionSet, hchoice, if_pos htakes, if_pos htakes, State.conversionSet,
    State.conversionSet, State.finishSet_idem]

theorem eventsFinishTheSetFirst : Claims.EventsFinishTheSetFirst := by
  intro s
  have hsiu : s.finishTrackers.siu = s.siu := by simp
  have hwindow : s.finishTrackers.windowDue = s.windowDue := State.windowDue_congr (by simp)
  refine ⟨timedRows_finishSet s, conversionSet_finishSet s, ?_, fun i h => ?_, fun h => ?_⟩
  · simp [State.trackersQuiet, s.finishTrackers_noneDue _]
  · rw [exec_stuckLong, exec_stuckLong, hsiu, if_pos h, if_pos h, State.finishTrackers_idem]
  · rw [exec_settleWindowEnd, exec_settleWindowEnd, hwindow, if_pos h, if_pos h, State.finishTrackers_idem]

/-- Settles O3: the end of a set leaves nothing due, so taking it again changes nothing, and every row that takes it
first may as well meet the finished part. -/
theorem rowsMeetAFinishedSet : Obligations.RowsMeetAFinishedSet :=
  ⟨finishingLeavesASettledState, commandsFinishTheSetFirst, eventsFinishTheSetFirst⟩

end Sys2Proof.Machine
end

section
/-!
PROOF. The transaction of a port (R176, R177, R178): the frames that the Port Interface answers itself, and the bytes of
a frame one by one.
-/

namespace Sys2Proof.Machine

/-! ### The frames that no block takes -/

section
variable {s : State} {p : Port} {n : Nat}

theorem PortIf.receives_eq_false {q : PortIf} (h : q.txn ≠ .receiving ∨ q.stored ≠ []) : q.receives = false := by
  refine Bool.eq_false_iff.mpr fun hr => ?_
  obtain ⟨htxn, hstored⟩ := q.receives_iff.mp hr
  exact h.elim (· htxn) (· hstored)

/-- In RECEIVING the Port Interface answers by itself, BUSY or with its own status (R177, R178). -/
theorem State.ownAnswer_of_receives (hr : (s.ports.get p).receives = true) (st : Status) :
    s.ownAnswer p n st = s.answers p n (if (s.ports.get p).handed.isSome then .busy else st) := by
  unfold State.ownAnswer
  rw [if_pos hr]
  cases p <;> rfl

theorem State.ownAnswer_of_listens (h : s.listens p = true) (st : Status) :
    s.ownAnswer p n st = s.answers p n st := by
  obtain ⟨hr, hhanded⟩ := (s.listens_iff p).mp h
  simp [State.ownAnswer_of_receives hr, hhanded]

theorem State.ownAnswer_of_handed (hr : (s.ports.get p).receives = true) (hh : (s.ports.get p).handed ≠ none)
    (st : Status) : s.ownAnswer p n st = s.answers p n .busy := by
  rw [State.ownAnswer_of_receives hr, if_pos (Option.isSome_iff_ne_none.mpr hh)]

theorem State.ownAnswer_of_not_receives (hr : (s.ports.get p).receives = false) (st : Status) :
    s.ownAnswer p n st = s := by
  simp [State.ownAnswer, hr]

/-- PART_RESET in RECEIVING: BUSY behind a command with its owner, else the reset, answered OK at once (R177, R186). -/
theorem exec_partReset_of_receives (hr : (s.ports.get p).receives = true) : exec (.partReset p) s =
    if (s.ports.get p).handed.isSome then .next (s.answers p 0 .busy) else .next (s.partReset.answers p 0 .ok) :=
  if_pos hr

theorem exec_partReset_of_not_receives (hr : (s.ports.get p).receives = false) : exec (.partReset p) s = .next s :=
  if_neg (by simp [hr])

variable {c : Instr} {code : Byte} {args : List Byte}

/-- Whatever the frame is, behind an earlier command with its owner it is answered BUSY (R177). -/
theorem AnswersFrame.exec_of_handed (hc : AnswersFrame p code args c) (hr : (s.ports.get p).receives = true)
    (hh : (s.ports.get p).handed ≠ none) : exec c s = .next (s.answers p args.length .busy) := by
  have hsome := Option.isSome_iff_ne_none.mpr hh
  cases hc with
  | handsOver _ hexec => rw [hexec, State.frame_of_handed _ _ hr hh]
  | unknown hbad => rw [exec_unknownCommand p hbad, State.ownAnswer_of_handed hr hh]
  | malformed => rw [exec_malformedFrame, State.ownAnswer_of_handed hr hh]
  | busy => rw [exec_busyFrame, if_pos hsome, State.ownAnswer_of_handed hr hh]
  | resets => rw [exec_partReset_of_receives hr, if_pos hsome, List.length_nil]

/-- Whatever the frame is, outside RECEIVING and behind stored bytes nothing comes of it (R177). -/
theorem AnswersFrame.exec_of_not_receives (hc : AnswersFrame p code args c)
    (hr : (s.ports.get p).receives = false) : exec c s = .next s := by
  cases hc with
  | handsOver _ hexec => rw [hexec, State.frame_of_not_receives _ _ hr]
  | unknown hbad => rw [exec_unknownCommand p hbad, State.ownAnswer_of_not_receives hr]
  | malformed => rw [exec_malformedFrame, State.ownAnswer_of_not_receives hr]
  | busy =>
    rw [exec_busyFrame, State.ownAnswer_of_not_receives hr]
    exact ite_self _
  | resets => exact exec_partReset_of_not_receives hr

end

/-- Settles O50: by the ways in which a row answers a frame. -/
theorem framesThePortAnswers : Obligations.FramesThePortAnswers := by
  refine ⟨fun p code args s h => ⟨fun hbad => ?_, ?_⟩, fun c p code args s hc hr hh => ?_,
    fun c p code args s hc h => ?_⟩
  · rw [exec_unknownCommand p hbad, State.ownAnswer_of_listens h]
  · rw [exec_malformedFrame, State.ownAnswer_of_listens h]
  · exact (exec_answersFrame hc).exec_of_handed hr hh
  · exact (exec_answersFrame hc).exec_of_not_receives (PortIf.receives_eq_false h)

/-! ### Chip select, the owner's answer, and one byte -/

theorem chipSelectAndAnswer : Claims.ChipSelectAndAnswer := by
  intro p s q
  refine ⟨rfl, rfl, ?_⟩
  have hanswer : q.ownerAnswers = match q.handed with
      | none => q
      | some r =>
        if q.txn = .waiting then { q with txn := .answering, handed := none, answer := some r, sent := 0 }
        else { q with handed := none } := by
    cases hhanded : q.handed with
    | none => simp [PortIf.ownerAnswers, hhanded]
    | some r => cases htxn : q.txn <;> simp [PortIf.ownerAnswers, hhanded, htxn]
  exact congrArg (fun q => Host.Outcome.next { s with ports := s.ports.set p q }) hanswer

/-- A response byte by byte: status, two bytes of length, body (R176, R179). -/
theorem Response.bytes_eq (r : Response) : r.bytes =
    [r.status.byte, BitVec.ofNat 8 (r.body.length / 256), BitVec.ofNat 8 r.body.length] ++ r.body := by
  rw [Response.bytes, num16_eq]
  rfl

/-- A byte of a response is sent (R176, R177). -/
theorem State.clockByte_of_answering {s : State} {p : Port} {r : Response} (b : Byte)
    (hlow : (s.ports.get p).csLow = true) (ht : (s.ports.get p).txn = .answering)
    (ha : (s.ports.get p).answer = some r) : s.clockByte p b = .next (s.updPort p fun q => { q with
      sdo := (r.bytes[q.sent]?).getD 0, sent := q.sent + 1,
      txn := if q.sent + 1 < r.bytes.length then .answering else .done }) := by
  rw [State.clockByte_of_not_receiving b hlow (by simp [ht]), State.updPort, PortIf.clockOut_of_answering ht ha]
  simp only [← Nat.not_lt, ite_not, List.getD_eq_getElem?_getD]
  rfl

theorem bytesAreClocked : Claims.BytesAreClocked := by
  intro p b s q
  refine ⟨State.clockByte_of_unselected b, fun hlow => ⟨fun ht => ⟨State.clockByte_of_part hlow ht,
    fun c hd => State.clockByte_of_whole hlow ht hd⟩, fun ht => ?_, fun r ht ha => ?_⟩⟩
  · have hreceiving : q.txn ≠ .receiving := by rcases ht with ht | ht | ht <;> simp [ht]
    have hanswering : q.txn ≠ .answering := by rcases ht with ht | ht | ht <;> simp [ht]
    rw [State.clockByte_of_not_receiving b hlow hreceiving, State.updPort, PortIf.clockOut_of_not_answering hanswering]
    rfl
  · rw [State.clockByte_of_answering b hlow ht ha, Response.bytes_eq]
    cases r.status <;> rfl

/-! ### A frame byte by byte -/

theorem decodeFrame_of_begun {p : Port} {code : Byte} {args l m : List Byte} (hargs : args.length ≤ 255)
    (h : l ++ m = code :: BitVec.ofNat 8 args.length :: args) (hm : m ≠ []) : decodeFrame p l = none := by
  match l, h with
  | [], _ => rfl
  | [_], _ => rfl
  | x :: n :: l, h =>
    obtain ⟨-, rfl, rfl⟩ : x = code ∧ n = BitVec.ofNat 8 args.length ∧ l ++ m = args := by simpa using h
    have hlong := List.length_pos_iff.mpr hm
    rw [List.length_append] at hargs
    refine decodeFrame_part p x _ ?_
    rw [BitVec.toNat_ofNat, Nat.mod_eq_of_lt (by rw [List.length_append]; omega), List.length_append]
    omega

/-- The part with the first bytes of a frame stored at a port (R177). -/
def State.storing (s : State) (p : Port) (l : List Byte) : State :=
  s.updPort p fun q => { q with stored := l, byteCount := l.length, sdo := 0 }

section
variable {s : State} {p : Port} {code : Byte} {args : List Byte}

theorem State.clockByte_first (hlow : (s.ports.get p).csLow = true) (hr : (s.ports.get p).receives = true) (b : Byte) :
    s.clockByte p b = .next (s.storing p [b]) := by
  obtain ⟨ht, hstored⟩ := (PortIf.receives_iff _).mp hr
  rw [State.clockByte_of_part hlow ht (by rw [hstored]; rfl), State.storing, State.updPort, PortIf.store, hstored]
  rfl

theorem State.storing_clockByte_of_part {l : List Byte} {b : Byte} (hlow : (s.ports.get p).csLow = true)
    (ht : (s.ports.get p).txn = .receiving) (hd : decodeFrame p (l ++ [b]) = none) :
    (s.storing p l).clockByte p b = .next (s.storing p (l ++ [b])) := by
  have hstored : ((s.storing p l).ports.get p).stored = l := by simp [State.storing]
  rw [State.clockByte_of_part (by simpa [State.storing] using hlow) (by simpa [State.storing] using ht)
    (by rw [hstored]; exact hd)]
  cases p <;> simp [State.storing, State.updPort, PortIf.store]

theorem State.storing_clockByte_of_whole {l : List Byte} {b : Byte} {c : Instr}
    (hlow : (s.ports.get p).csLow = true) (hr : (s.ports.get p).receives = true)
    (hd : decodeFrame p (l ++ [b]) = some c) : (s.storing p l).clockByte p b = exec c (s.rested p) := by
  obtain ⟨ht, hnone⟩ := (PortIf.receives_iff _).mp hr
  have hstored : ((s.storing p l).ports.get p).stored = l := by simp [State.storing]
  rw [State.clockByte_of_whole (by simpa [State.storing] using hlow) (by simpa [State.storing] using ht)
    (by rw [hstored]; exact hd)]
  have hrested : (s.storing p l).updPort p PortIf.takeFrame = s.rested p := by
    simp [State.storing, State.rested, State.updPort, PortIf.takeFrame, PortIf.rested, hnone]
  rw [hrested]

/-- Behind its first bytes, the others of a frame make its row. -/
theorem State.storing_clockBytes (hlow : (s.ports.get p).csLow = true) (hr : (s.ports.get p).receives = true)
    (hargs : args.length ≤ 255) (m : List Byte) :
    ∀ l, l ++ m = code :: BitVec.ofNat 8 args.length :: args → m ≠ [] →
      (s.storing p l).clockBytes p m = exec (frameRow p code args) (s.rested p) := by
  obtain ⟨ht, -⟩ := (PortIf.receives_iff _).mp hr
  induction m with
  | nil => exact fun _ _ h => absurd rfl h
  | cons b m ih =>
    intro l h _
    have h' : (l ++ [b]) ++ m = code :: BitVec.ofNat 8 args.length :: args := by simpa using h
    by_cases hm : m = []
    · have hd : decodeFrame p (l ++ [b]) = some (frameRow p code args) := by
        rw [← decodeFrame_whole p code hargs, ← h', hm, List.append_nil]
      obtain ⟨t, hexec, -⟩ := exec_answersNext (frameRow p code args) (s.rested p)
      rw [hm, State.clockBytes, State.storing_clockByte_of_whole hlow hr hd, hexec]
      rfl
    · rw [State.clockBytes, State.storing_clockByte_of_part hlow ht (decodeFrame_of_begun hargs h' hm)]
      exact ih _ h' hm

end

/-! ### What a row answers does not hang on the byte count and the byte sent last -/

section
variable {s : State} {p : Port}

theorem State.rested_receives : ((s.rested p).ports.get p).receives = (s.ports.get p).receives := by
  rw [State.rested, State.updPort_ports_same]
  rfl

theorem State.rested_handed : ((s.rested p).ports.get p).handed = (s.ports.get p).handed := by
  rw [State.rested, State.updPort_ports_same]
  rfl

theorem State.rested_listens : (s.rested p).listens p = s.listens p := by
  rw [State.listens, State.rested_receives, State.rested_handed]
  rfl

theorem State.rested_awaits (n : Nat) (st : Status) (body : List Byte) :
    (s.rested p).awaits p n st body = s.awaits p n st body := by
  cases p <;> rfl

theorem State.rested_answers (n : Nat) (st : Status) : (s.rested p).answers p n st = s.answers p n st := by
  cases p <;> rfl

theorem State.rested_ownAnswer (hr : (s.ports.get p).receives = true) (n : Nat) (st : Status) :
    (s.rested p).ownAnswer p n st = s.ownAnswer p n st := by
  rw [State.ownAnswer_of_receives (State.rested_receives.trans hr), State.ownAnswer_of_receives hr,
    State.rested_answers, State.rested_handed]

theorem State.rested_frame {owner : State → State × Response} (howner : Courteous owner)
    (h : s.listens p = true) (n : Nat) : (s.rested p).frame p n owner = s.frame p n owner := by
  rw [State.frame_of_listens n owner (State.rested_listens.trans h), State.frame_of_listens n owner h,
    finishSet_blind.rested, howner.rested, State.rested_awaits]

theorem State.rested_partReset : (s.rested p).partReset = s.partReset := by
  cases p <;> rfl

/-- The row of a whole frame acts so. -/
theorem AnswersFrame.exec_rested {code : Byte} {args : List Byte} {c : Instr} (hc : AnswersFrame p code args c)
    (hbusy : c ≠ .busyFrame p code args) (hr : (s.ports.get p).receives = true) :
    exec c (s.rested p) = exec c s := by
  have hr' : ((s.rested p).ports.get p).receives = true := State.rested_receives.trans hr
  by_cases hh : (s.ports.get p).handed = none
  · cases hc with
    | handsOver howner hexec => rw [hexec, hexec, State.rested_frame howner ((s.listens_iff p).mpr ⟨hr, hh⟩)]
    | unknown hbad => rw [exec_unknownCommand p hbad, exec_unknownCommand p hbad, State.rested_ownAnswer hr]
    | malformed => rw [exec_malformedFrame, exec_malformedFrame, State.rested_ownAnswer hr]
    | busy => exact absurd rfl hbusy
    | resets => simp [exec_partReset_of_receives hr', exec_partReset_of_receives hr, State.rested_handed, hh,
        State.rested_partReset]
  · rw [hc.exec_of_handed hr hh, hc.exec_of_handed hr' (by rwa [State.rested_handed]), State.rested_answers]

end

/-! ### The row of a frame is a frame's row -/

/-- A row is a command frame of the port, and not the row BUSY_FRAME, which no bytes are read as. -/
def Instr.FrameAt (p : Port) (c : Instr) : Prop :=
  ∃ code args, frameOf? c = some (p, code, args) ∧ c ≠ .busyFrame p code args

theorem byte_eq_of_toNat {x : Byte} {n : Nat} (h : x.toNat = n) : x = BitVec.ofNat 8 n := by
  rw [← h, BitVec.ofNat_toNat, BitVec.setWidth_eq]

theorem frameAt_of_linkCommand? {p : Port} {b : Byte} {c : Instr} (h : linkCommand? p b = some c) :
    Instr.FrameAt p c := by
  unfold linkCommand? at h
  split at h <;> cases h <;> exact ⟨_, _, rfl, nofun⟩

theorem frameAt_of_streamCommand? {p : Port} {b : Byte} {c : Instr} (h : streamCommand? p b = some c) :
    Instr.FrameAt p c := by
  unfold streamCommand? at h
  split at h <;> cases h <;> exact ⟨_, _, rfl, nofun⟩

/-- Code by code, in the order of the command table (R181, R188). -/
theorem frameAt_of_commandOf? {p : Port} {code : Byte} {args : List Byte} {c : Instr}
    (hn : argLength? code args = some args.length) (h : commandOf? p code args = some c) : Instr.FrameAt p c := by
  unfold argLength? at hn
  split at hn
  case h_30 => cases hn
  all_goals
    rename_i hcode
    obtain rfl := byte_eq_of_toNat hcode
    have hlength := (Option.some.inj hn).symm
  case h_1 | h_2 | h_4 | h_9 | h_12 | h_17 | h_18 | h_20 | h_22 | h_24 | h_26 | h_28 | h_29 =>
    obtain rfl := List.length_eq_zero_iff.mp hlength
    cases h
    exact ⟨_, _, rfl, nofun⟩
  case h_3 | h_7 | h_25 =>
    obtain ⟨a, rfl⟩ := List.length_eq_one_iff.mp hlength
    cases h
    exact ⟨_, _, rfl, nofun⟩
  case h_5 | h_6 | h_8 | h_10 | h_14 =>
    obtain ⟨a, b, rfl⟩ := List.length_eq_two.mp hlength
    cases h
    exact ⟨_, _, rfl, nofun⟩
  case h_27 =>
    obtain ⟨a, b, d, rfl⟩ := List.length_eq_three.mp hlength
    cases h
    exact ⟨_, _, rfl, nofun⟩
  case h_15 =>
    obtain ⟨a, rfl⟩ := List.length_eq_one_iff.mp hlength
    exact frameAt_of_linkCommand? h
  case h_23 =>
    obtain ⟨a, rfl⟩ := List.length_eq_one_iff.mp hlength
    exact frameAt_of_streamCommand? h
  case h_16 =>
    match args, hlength, h with
    | [_, _, _, _], _, h =>
      cases h
      exact ⟨_, _, rfl, nofun⟩
  case h_11 =>
    match args, hlength, h with
    | _ :: _ :: _ :: _ :: _, _, h =>
      obtain ⟨m, -, rfl⟩ := Option.map_eq_some_iff.mp h
      exact ⟨_, _, rfl, nofun⟩
  case h_13 =>
    match args, hlength, h with
    | _ :: _ :: _, _, h =>
      obtain ⟨m, -, rfl⟩ := Option.map_eq_some_iff.mp h
      exact ⟨_, _, rfl, nofun⟩
  case h_19 =>
    obtain ⟨m, -, rfl⟩ := Option.map_eq_some_iff.mp h
    exact ⟨_, _, rfl, nofun⟩
  case h_21 =>
    match args, h with
    | _ :: _, h =>
      cases h
      exact ⟨_, _, rfl, nofun⟩

theorem frameAt_frameRow (p : Port) (code : Byte) (args : List Byte) : Instr.FrameAt p (frameRow p code args) := by
  unfold frameRow
  split
  · exact ⟨_, _, rfl, nofun⟩
  next n hn =>
    split
    · next hlength =>
      cases h : commandOf? p code args with
      | none => exact ⟨_, _, rfl, nofun⟩
      | some c => exact frameAt_of_commandOf? (hlength ▸ hn) h
    · exact ⟨_, _, rfl, nofun⟩

/-! ### No row takes a byte that waits -/

theorem PortIf.Kept.sdi {q q' : PortIf} (h : q.Kept q') : q'.sdi = q.sdi := by
  rw [h.words]

theorem Blind.sameBytes {op : State → State} (h : Blind op) (s : State) : s.SameBytes (op s) := fun p =>
  (h.kept s p).sdi

/-- A change of one port that takes no byte. -/
theorem State.updPort_sameBytes {s : State} {p : Port} {f : PortIf → PortIf} (h : (f (s.ports.get p)).sdi =
    (s.ports.get p).sdi) : s.SameBytes (s.updPort p f) := fun q => by
  rw [State.updPort_ports]
  split
  · next hq => rw [hq, h]
  · rfl

theorem State.powerOn_sameBytes (s : State) : s.SameBytes s.powerOn := fun p => by
  rw [State.powerOn_ports]
  rfl

theorem PortIf.fall_sdi (q : PortIf) : q.fall.sdi = q.sdi := by
  unfold PortIf.fall
  split <;> rfl

theorem PortIf.rise_sdi (q : PortIf) : q.rise.sdi = q.sdi := by
  unfold PortIf.rise
  split <;> rfl

theorem PortIf.ownerAnswers_sdi (q : PortIf) : q.ownerAnswers.sdi = q.sdi := by
  unfold PortIf.ownerAnswers
  repeat' split
  all_goals rfl

/-- The row answers states with the bytes that wait as they were. -/
def AnswersSameBytes (s : State) (r : Result) : Prop := ∀ t, r = .next t → s.SameBytes t

section
variable {s : State} {p : Port} {n : Nat}

theorem answersSameBytes_next {t : State} (h : s.SameBytes t) : AnswersSameBytes s (.next t) := fun _ ht =>
  Host.Outcome.next.inj ht ▸ h

theorem State.frame_sameBytes {owner : State → State × Response} (howner : Courteous owner) :
    s.SameBytes (s.frame p n owner) := by
  unfold State.frame
  dsimp only
  repeat' split
  · exact State.updPort_sameBytes rfl
  · exact State.SameBytes.trans (fun q => (howner.taken s q).sdi) (State.updPort_sameBytes rfl)
  · exact fun _ => rfl

theorem State.ownAnswer_sameBytes (st : Status) : s.SameBytes (s.ownAnswer p n st) := by
  unfold State.ownAnswer
  dsimp only
  split
  · exact State.updPort_sameBytes rfl
  · exact fun _ => rfl

theorem answersSameBytes_partReset : AnswersSameBytes s (execPartReset p s) := by
  unfold execPartReset
  dsimp only
  repeat' split
  · exact answersSameBytes_next (State.updPort_sameBytes rfl)
  · have hreset : s.SameBytes s.partReset := s.powerOn_sameBytes
    exact answersSameBytes_next (hreset.trans (State.updPort_sameBytes rfl))
  · exact answersSameBytes_next fun _ => rfl

theorem AnswersFrame.sameBytes {code : Byte} {args : List Byte} {c : Instr} (hc : AnswersFrame p code args c) :
    AnswersSameBytes s (exec c s) := by
  cases hc with
  | handsOver howner hexec =>
    rw [hexec]
    exact answersSameBytes_next (State.frame_sameBytes howner)
  | unknown hbad =>
    rw [exec_unknownCommand p hbad]
    exact answersSameBytes_next (State.ownAnswer_sameBytes .unknown)
  | malformed => exact answersSameBytes_next (State.ownAnswer_sameBytes .malformed)
  | busy =>
    rw [exec_busyFrame]
    split
    · exact answersSameBytes_next (State.ownAnswer_sameBytes .busy)
    · exact answersSameBytes_next fun _ => rfl
  | resets => exact answersSameBytes_partReset

theorem AnswersEvent.sameBytes {f : State → Result} (hf : AnswersEvent f) : AnswersSameBytes s (f s) := by
  cases hf with
  | blind hop => exact answersSameBytes_next (hop.sameBytes s)
  | blindIf hop =>
    dsimp only
    split
    · exact answersSameBytes_next (hop.sameBytes s)
    · exact answersSameBytes_next fun _ => rfl
  | powerOn => exact answersSameBytes_next s.powerOn_sameBytes
  | csFall p => exact answersSameBytes_next (State.updPort_sameBytes (PortIf.fall_sdi _))
  | csRise p => exact answersSameBytes_next (State.updPort_sameBytes (PortIf.rise_sdi _))
  | responseReady p => exact answersSameBytes_next (State.updPort_sameBytes (PortIf.ownerAnswers_sdi _))

/-- No row takes a byte that waits (R177). -/
theorem exec_sameBytes (c : Instr) (s : State) : AnswersSameBytes s (exec c s) := by
  cases hframe : frameOf? c with
  | none => exact (exec_answersEvent hframe).sameBytes
  | some f => exact (exec_answersFrame hframe).sameBytes

end

theorem framesByteByByte : Claims.FramesByteByByte := by
  refine ⟨fun p code args s hlow hr hargs => ?_, fun c s t ht => exec_sameBytes c s t ht⟩
  obtain ⟨code', args', hframe, hbusy⟩ := frameAt_frameRow p code args
  rw [← (exec_answersFrame hframe).exec_rested hbusy hr, State.clockBytes, State.clockByte_first hlow hr]
  exact State.storing_clockBytes hlow hr hargs _ [code] rfl (List.cons_ne_nil _ _)

/-- Settles O49, by its three parts. -/
theorem transactions : Obligations.Transactions :=
  ⟨chipSelectAndAnswer, bytesAreClocked, framesByteByByte⟩

end Sys2Proof.Machine
end

section
/-!
PROOF. The flags, the mask and the attention line of a port (R182 to R185), IDENTIFY and READ_STATUS.
-/

namespace Sys2Proof.Machine

/-! ### IDENTIFY and READ_STATUS -/

/-- A command that only reads answers and changes nothing else. -/
theorem State.frame_of_read {s : State} {p : Port} (h : s.ready p = true) (n : Nat) (body : State → List Byte) :
    s.frame p n (fun t => (t, ok (body t))) = s.awaits p n .ok (body s) :=
  State.frame_of_ready n _ h

/-- Settles O51: the two bodies are defined so, byte by byte. -/
theorem identifyAndStatus : Obligations.IdentifyAndStatus := by
  intro p s h b1 b2 truth common
  have hbody : statusBody s p = b2 (s.ports.get p).flags ++ b2 (s.ports.get p).mask ++ common ++
      [b1 (s.streams.get p).state.code] := by
    unfold statusBody
    dsimp only [common]
    cases s.siu.rate <;> rfl
  rw [← hbody]
  refine ⟨?_, congrArg _ (State.frame_of_read h 0 fun t => statusBody t p)⟩
  cases p <;> exact congrArg _ (State.frame_of_read h 0 fun _ => identifyBody _)

/-! ### Flags in a word -/

theorem Flag.exists_bit : ∀ i < 10, ∃ f : Flag, f.bit = i
  | 0, _ => ⟨.pkt, rfl⟩
  | 1, _ => ⟨.lost, rfl⟩
  | 2, _ => ⟨.latch, rfl⟩
  | 3, _ => ⟨.latchOvr, rfl⟩
  | 4, _ => ⟨.cuePlaced, rfl⟩
  | 5, _ => ⟨.learnDone, rfl⟩
  | 6, _ => ⟨.link, rfl⟩
  | 7, _ => ⟨.fault, rfl⟩
  | 8, _ => ⟨.peerCommit, rfl⟩
  | 9, _ => ⟨.resetDone, rfl⟩

/-- Every flag is one of the ten bits (R183). -/
theorem Flag.isSet_flagBits (f : Flag) : f.isSet flagBits = true := by
  cases f <;> decide

theorem Flag.isSet_and (f : Flag) (w x : Half) : f.isSet (w &&& x) = (f.isSet w && f.isSet x) :=
  BitVec.getLsbD_and

theorem Flag.isSet_clearIn (f : Flag) (w word : Half) :
    f.isSet (clearIn w word) = (f.isSet w && !word.getLsbD f.bit) := by
  have hnot (x : Half) : f.isSet (~~~x) = !f.isSet x := by
    simp [Flag.isSet, f.bit_lt]
  rw [clearIn, Flag.isSet_and, hnot, Flag.isSet_and, f.isSet_flagBits, Bool.and_true]
  rfl

/-- A word within the ten bits is not 0 exactly while a flag is set in it. -/
theorem ne_zero_iff_exists_isSet {w : Half} (h : w &&& 0xFC00 = 0) : w ≠ 0 ↔ ∃ f : Flag, f.isSet w = true := by
  have hhigh (i : Nat) (hi : 10 ≤ i) (hi' : i < 16) : w.getLsbD i = false := by
    have hbit : (w &&& 0xFC00).getLsbD i = false := by
      rw [h]
      exact BitVec.getLsbD_zero
    have hset : BitVec.getLsbD (0xFC00 : Half) i = true := by interval_cases i <;> rfl
    rwa [BitVec.getLsbD_and, hset, Bool.and_true] at hbit
  constructor
  · intro hw
    by_contra hnone
    refine hw (BitVec.eq_of_getLsbD_eq fun i hi => ?_)
    have hclear : w.getLsbD i = false := by
      by_cases hten : i < 10
      · obtain ⟨f, rfl⟩ := Flag.exists_bit i hten
        exact Bool.eq_false_iff.mpr fun hf => hnone ⟨f, hf⟩
      · exact hhigh i (by omega) hi
    exact hclear.trans BitVec.getLsbD_zero.symm
  · rintro ⟨f, hf⟩ rfl
    simp [Flag.isSet] at hf

/-! ### CLEAR_FLAGS -/

section
variable {s : State} {p : Port}

theorem State.awaits_port_same (n : Nat) (st : Status) (body : List Byte) : (s.awaits p n st body).ports.get p =
    { s.ports.get p with txn := .waiting, byteCount := n + 2, handed := some ⟨st, body⟩, sdo := 0 } :=
  State.updPort_ports_same s p _

/-- Changes of one port leave the other. -/
theorem State.updPort_port_other (s : State) (p : Port) (f : PortIf → PortIf) :
    (s.updPort p f).ports.get p.other = s.ports.get p.other := by
  cases p <;> rfl

theorem State.raise_ready (h : s.ready p = true) (f : Flag) : (s.raise p f).ready p = true := by
  cases p <;> exact h

/-- CLEAR_FLAGS in a ready part (R184). -/
theorem exec_clearFlags_of_ready (h : s.ready p = true) (word : Half) : exec (.clearFlags p word) s =
    .next (State.awaits (s.updPort p fun q => { q with flags := clearIn q.flags word }) p 2 .ok
      (be16 (clearIn (s.ports.get p).flags word))) := by
  have hexec : exec (.clearFlags p word) s = .next (s.frame p 2 fun t => t.doClearFlags p word) := rfl
  rw [hexec, State.frame_of_ready 2 _ h, State.doClearFlags, State.updPort_ports_same]
  rfl

/-- The flags after it, at the sending port alone. -/
theorem exec_clearFlags_flags (h : s.ready p = true) (word : Half) : ∃ t, exec (.clearFlags p word) s = .next t ∧
    (t.ports.get p).flags = clearIn (s.ports.get p).flags word ∧ t.ports.get p.other = s.ports.get p.other := by
  refine ⟨_, exec_clearFlags_of_ready h word, ?_, ?_⟩
  · rw [State.awaits_port_same, State.updPort_ports_same]
  · rw [State.awaits, State.updPort_port_other, State.updPort_port_other]

theorem State.raise_flags (s : State) (p : Port) (f : Flag) :
    ((s.raise p f).ports.get p).flags = raiseIn (s.ports.get p).flags f := by
  rw [State.raise_port, if_pos rfl]

end

/-- Settles O52: a clearing after the raise takes the flag with it, and a raise after the clearing sets it again. -/
theorem clearFlagsAtTheSendingPort : Obligations.ClearFlagsAtTheSendingPort := by
  refine ⟨fun p word s h => exec_clearFlags_of_ready h word, fun p word f s h => ?_⟩
  obtain ⟨t, ht, hflags, hother⟩ := exec_clearFlags_flags h word
  obtain ⟨u, hu, hflags', -⟩ := exec_clearFlags_flags (State.raise_ready h f) word
  refine ⟨t, u, ht, hu, fun g => ?_, hother, fun hword => ?_, ?_⟩
  · rw [hflags, Flag.isSet_clearIn]
  · rw [hflags', Flag.isSet_clearIn, hword, Bool.not_true, Bool.and_false]
  · rw [State.raise_flags, Flag.isSet_raiseIn, decide_eq_true rfl, Bool.or_true]

/-! ### SET_ATTN_MASK and the attention line -/

/-- The attention line hangs on the two words alone (R185). -/
theorem PortIf.attnLow_iff {q : PortIf} (h : q.TenBits) :
    q.attnLow = true ↔ ∃ f : Flag, f.isSet q.flags = true ∧ f.isSet q.mask = true := by
  have hten : q.flags &&& q.mask &&& 0xFC00 = 0 := by
    rw [BitVec.and_assoc, h.2]
    exact BitVec.and_zero
  rw [PortIf.attnLow, bne_iff_ne, ne_zero_iff_exists_isSet hten]
  simp only [Flag.isSet_and, Bool.and_eq_true]

/-- Settles O53: the words of a port hold ten bits (R183, R185), and every one of these is a flag's. -/
theorem maskAndAttention : Obligations.MaskAndAttention := by
  refine ⟨fun p word s h => ?_, fun q hok => PortIf.attnLow_iff (q.ok_iff.mp hok).words,
    fun p f g s => ⟨?_, ?_, ?_⟩⟩
  · exact congrArg _ (State.frame_of_ready 2 (fun t => t.doSetMask p word) h)
  · rw [State.raise_flags, Flag.isSet_raiseIn, Bool.or_comm]
  · rw [State.raise_port, if_pos rfl]
  · exact State.updPort_port_other s p _

end Sys2Proof.Machine
end

section
/-!
PROOF. Frames and commands agree (R176, R178, R181): the bytes of a command frame are read as that command.
-/

namespace Sys2Proof.Machine

/-- Bytes behind the last argument are filler (R176). -/
theorem decodeFrame_whole_append (p : Port) (code : Byte) {args : List Byte} (h : args.length ≤ 255)
    (filler : List Byte) :
    decodeFrame p (code :: BitVec.ofNat 8 args.length :: args ++ filler) = some (frameRow p code args) := by
  have hcount : (BitVec.ofNat 8 args.length).toNat = args.length := by
    rw [BitVec.toNat_ofNat, Nat.mod_eq_of_lt (by omega)]
  simp [decodeFrame, hcount]

/-! ### The rows for frames that spell no command -/

section
variable {p : Port} {code : Byte} {args : List Byte}

theorem argsFit_iff : argsFit args = true ↔ args.length ≤ 255 := decide_eq_true_iff

/-- A code of no command, or a subcommand that names nothing, makes the row UNKNOWN_COMMAND (R178, log entry 12). -/
theorem frameRow_unknownCommand (h : (Instr.unknownCommand p code args).wellFormed = true) :
    args.length ≤ 255 ∧ frameRow p code args = .unknownCommand p code args := by
  simp only [Instr.wellFormed, Bool.and_eq_true, Bool.or_eq_true, Option.isNone_iff_eq_none] at h
  obtain ⟨hfit, hcode⟩ := h
  refine ⟨argsFit_iff.mp hfit, ?_⟩
  rcases hcode with hnone | hbad
  · simp [frameRow, hnone]
  · match args, hbad with
    | [b], hbad =>
      simp only [badSubcommand, Bool.or_eq_true, Bool.and_eq_true, beq_iff_eq, decide_eq_true_eq] at hbad
      rcases hbad with ⟨rfl, hb⟩ | ⟨rfl, hb⟩
      · exact (frameRow_linkControl p b).trans (by rw [linkCommand?_eq_none p hb, Option.getD_none]; rfl)
      · exact (frameRow_streamControl p b).trans (by rw [streamCommand?_eq_none p hb, Option.getD_none]; rfl)

/-- A length that is not the one of the code makes the row MALFORMED_FRAME (R178). -/
theorem frameRow_malformedFrame (h : (Instr.malformedFrame p code args).wellFormed = true) :
    args.length ≤ 255 ∧ frameRow p code args = .malformedFrame p code args := by
  simp only [Instr.wellFormed, Bool.and_eq_true] at h
  obtain ⟨hfit, hlength⟩ := h
  refine ⟨argsFit_iff.mp hfit, ?_⟩
  unfold frameRow
  cases hcode : argLength? code args with
  | none => simp [hcode] at hlength
  | some n =>
    have hne : args.length ≠ n := by simpa [hcode] using hlength
    simp [hne]

end

/-! ### The commands whose arguments are read anew -/

section
variable (p : Port)

theorem commandOf?_clearFlags (w : Half) : commandOf? p 0x11 (be16 w) = some (.clearFlags p w) :=
  congrArg (fun x => some (Instr.clearFlags p x)) (half_be16 w)

theorem commandOf?_setAttnMask (w : Half) : commandOf? p 0x12 (be16 w) = some (.setAttnMask p w) :=
  congrArg (fun x => some (Instr.setAttnMask p x)) (half_be16 w)

theorem commandOf?_learnStart (n k : Byte) (base : Half) :
    commandOf? p 0x50 ([n, k] ++ be16 base) = some (.learnStart p n k base) :=
  congrArg (fun x => some (Instr.learnStart p n k x)) (half_be16 base)

theorem commandOf?_postCue (d : Byte) (code : Half) :
    commandOf? p 0x68 ([d] ++ be16 code) = some (.postCue p d code) :=
  congrArg (fun x => some (Instr.postCue p d x)) (half_be16 code)

theorem commandOf?_editProfile (k n : Byte) (base : Half) (m : ProfileImage) :
    commandOf? p 0x31 ([k, n] ++ be16 base ++ imageBytes m) = some (.editProfile p k n base m) := by
  have hread : commandOf? p 0x31 ([k, n] ++ be16 base ++ imageBytes m) = (profileImage? (imageBytes m)).map fun m =>
      .editProfile p k n (half (base.extractLsb' 8 8) (base.extractLsb' 0 8)) m := rfl
  rw [hread, profileImage?_imageBytes, half_be16, Option.map_some]

theorem commandOf?_editGlobal (base : Half) (m : GlobalImage) :
    commandOf? p 0x33 (be16 base ++ globalBytes m) = some (.editGlobal p base m) := by
  have hread : commandOf? p 0x33 (be16 base ++ globalBytes m) = (globalImage? (globalBytes m)).map fun m =>
      .editGlobal p (half (base.extractLsb' 8 8) (base.extractLsb' 0 8)) m := rfl
  rw [hread, globalImage?_globalBytes, half_be16, Option.map_some]

theorem commandOf?_setStream (m : SettingsImage) : commandOf? p 0x60 (settingsBytes m) = some (.setStream p m) := by
  have hread : commandOf? p 0x60 (settingsBytes m) = (settingsImage? (settingsBytes m)).map (.setStream p ·) := rfl
  rw [hread, settingsImage?_settingsBytes, Option.map_some]

/-- The bytes of a filter: the count of entries, and three bytes for each. -/
theorem frameRow_setFilter {l : List FilterImage} (h : l.length ≤ 84) :
    frameRow p 0x62 (byte l.length ++ l.flatMap fun m => [m.kinds, m.strings, m.action]) = .setFilter p l := by
  have hcount : (BitVec.ofNat 8 l.length).toNat = l.length := by
    rw [BitVec.toNat_ofNat, Nat.mod_eq_of_lt (by omega)]
  refine frameRow_eq ?_ (congrArg (fun l => some (Instr.setFilter p l)) (filterImages_flatMap l))
  rw [filterArgs_length]
  exact congrArg (fun n => some (1 + 3 * n)) hcount

end

/-- The arguments of a well-formed command frame fit it, and the frame is its row. -/
theorem frameRow_of_frameOf? {c : Instr} {p : Port} {code : Byte} {args : List Byte}
    (h : frameOf? c = some (p, code, args)) (hwf : c.wellFormed = true) (hbusy : c ≠ .busyFrame p code args) :
    args.length ≤ 255 ∧ frameRow p code args = c := by
  cases c <;> cases h
  case busyFrame => exact absurd rfl hbusy
  case unknownCommand => exact frameRow_unknownCommand hwf
  case malformedFrame => exact frameRow_malformedFrame hwf
  case clearFlags w => exact ⟨Nat.le_of_ble_eq_true rfl, frameRow_eq rfl (commandOf?_clearFlags p w)⟩
  case setAttnMask w => exact ⟨Nat.le_of_ble_eq_true rfl, frameRow_eq rfl (commandOf?_setAttnMask p w)⟩
  case learnStart n k base =>
    exact ⟨Nat.le_of_ble_eq_true rfl, frameRow_eq rfl (commandOf?_learnStart p n k base)⟩
  case postCue d code => exact ⟨Nat.le_of_ble_eq_true rfl, frameRow_eq rfl (commandOf?_postCue p d code)⟩
  case editProfile k n base m =>
    exact ⟨Nat.le_of_ble_eq_true rfl, frameRow_eq rfl (commandOf?_editProfile p k n base m)⟩
  case editGlobal base m =>
    exact ⟨Nat.le_of_ble_eq_true rfl, frameRow_eq rfl (commandOf?_editGlobal p base m)⟩
  case setStream m => exact ⟨Nat.le_of_ble_eq_true rfl, frameRow_eq rfl (commandOf?_setStream p m)⟩
  case setFilter l =>
    have hlength : l.length ≤ 84 := of_decide_eq_true hwf
    exact ⟨by rw [filterArgs_length]; omega, frameRow_setFilter p hlength⟩
  all_goals exact ⟨Nat.le_of_ble_eq_true rfl, rfl⟩

/-- Settles O55: a frame is decoded to its row, and the row of a well-formed command's frame is that command. -/
theorem frameRoundTrip : Obligations.FrameRoundTrip := by
  intro c p code args h hwf hbusy
  obtain ⟨hlength, hrow⟩ := frameRow_of_frameOf? h hwf hbusy
  refine ⟨hlength, _, by rw [encodeFrame, h]; rfl, rfl, fun filler => ?_⟩
  rw [decodeFrame_whole_append p code hlength, hrow]

end Sys2Proof.Machine
end
